-- ==== Sys2Proof/Config.lean ====
section
/-! DEFINITION. What the source fixes (spec/00_scope.md R7), what an implementation fixes (R8) and the free
values (`any_N` of R14, and `line_in(t)` where no script gives it). -/

namespace Sys2Proof.Config

/-- `NBITS` (R7): bit slots captured per read. -/
abbrev nbits : Nat := 40

/-- `NFIELDS` (R7): decoded fields. -/
abbrev nfields : Nat := 4

/-- `FIELD_W` (R7): bits per field. -/
abbrev fieldW : Nat := 8

/-- `SAMPLE_DELAY_TICKS` (R7): counter ticks between the reset that follows the rise and the sample. -/
def sampleDelayTicks : Nat := 40

/-- `TIMEOUT_TICKS` (R7): the tick budget of every wait. -/
def timeoutTicks : Nat := 200

/-- `FRAC_DIV` (R7): divisor of the fraction fields. -/
def fracDiv : Nat := 10

/-- The parameters the source leaves open (R8), "each a named argument of the model". One value of this
type is one block; the machine reads them from `State.params`, which no tick writes (log 5). -/
structure Params where
  /-- `START_LOW_TICKS`: ticks for which the line is driven low by START_LOW. -/
  startLowTicks : Nat
  /-- `CNT_W`: width in bits of CNT. -/
  cntW : Nat
  /-- `DLY_W`: width in bits of DLY. -/
  dlyW : Nat
  /-- `HANDLE_W`: width in bits of each handle. -/
  handleW : Nat
  /-- `TICK_NS`: nominal tick period in nanoseconds; no rule reads it (R228). -/
  tickNs : Nat
  deriving DecidableEq, Repr

/-- The legal range of every parameter (R8). DLY_W at least ceil(log2(START_LOW_TICKS)) is written as R9
writes it, `2^DLY_W >= START_LOW_TICKS`. -/
def Params.legal (p : Params) : Bool :=
  decide (18000 ≤ p.startLowTicks ∧ p.startLowTicks ≤ 20000 ∧ 8 ≤ p.cntW ∧ p.startLowTicks ≤ 2 ^ p.dlyW ∧
    1 ≤ p.handleW ∧ 1 ≤ p.tickNs)

/-- The default of every parameter (R8): the block "every test vector of `95_test_vectors.md` uses". -/
def defaults : Params where
  startLowTicks := 18000
  cntW          := 16
  dlyW          := 15
  handleW       := 8
  tickNs        := 1000

/-- The level of the line in a tick for which `State.inputs` holds no entry. R69: "The value of
`line_in(t)` is supplied by the environment and constrained by nothing in this spec." A free value
numbered by the tick (log 1; safe). -/
opaque freeLevel : Nat → Bool

/-- HUM_INT after a Timeout in the numbered tick: `any_8` of R193, R194. A free value (log 2; safe). -/
opaque freeHumInt : Nat → BitVec 8

/-- HUM_FRAC after a Timeout: `any_8` of R193, R194. A free value (log 2; safe). -/
opaque freeHumFrac : Nat → BitVec 8

/-- TMP_INT after a Timeout: `any_8` of R193, R194. A free value (log 2; safe). -/
opaque freeTmpInt : Nat → BitVec 8

/-- TMP_FRAC after a Timeout: `any_8` of R193, R194. A free value (log 2; safe). -/
opaque freeTmpFrac : Nat → BitVec 8

/-- HUM_X10 after a Timeout: `any_12` of R193, R194. A free value (log 2; safe). -/
opaque freeHumX10 : Nat → BitVec 12

/-- TMP_X10 after a Timeout: `any_12` of R193, R194. A free value (log 2; safe). -/
opaque freeTmpX10 : Nat → BitVec 12

end Sys2Proof.Config
end

