-- ==== Sys2Proof/Word.lean ====
section
/-! DEFINITION. The widths of the block's registers and ports (spec/10_state.md R20) as types. A
register whose width is a parameter of R8 (CNT, DLY, the handles) is a Nat, the unsigned number it holds;
Machine/Operands.lean wraps at the width and `Inv` says that it fits (log 5). -/

namespace Sys2Proof

/-- A level of the line, and a captured bit (R13): `true` = 1 = high, `false` = 0 = low. -/
abbrev Level := Bool

/-- BITIDX, 6 bits (R27). -/
abbrev SlotIndex := BitVec 6

/-- One decoded field, 8 bits (R31). -/
abbrev Byte := BitVec 8

/-- One reading in tenths, 12 bits (R32). -/
abbrev Tenths := BitVec 12

/-- BITBUF: 40 one-bit cells addressed by the slot index (R28, R60). -/
abbrev Slots := Vector Level 40

end Sys2Proof
end

