-- ==== Sys2Proof/Syntax.lean ====
section
/-! DEFINITION. What the block decodes (spec/30_encoding.md): the command port, the sequencer state,
and the instructions of spec/opcode_table.json, one constructor a row. -/

namespace Sys2Proof

/-- The sequencer state ST (R26, R83): the twelve micro-operations. R84: "A model should make ST an
enumeration of twelve values so that the codes cannot be written down" (log 3). -/
inductive SeqState where
  | idle | startLow | startRel | ackLow1 | ackHigh | ackLow2
  | bitRise | bitHold | bitFall | decode | done | timedout
  deriving DecidableEq, Repr

/-- The pin mode DIR (R13, R29, R85): Output = 1, Input = 0. -/
inductive PinMode where
  | input | output
  deriving DecidableEq, Repr

/-- The command port during one tick (R80): `cmd_valid`, `cmd_op` and the three operand ports of
HANDLE_W bits each (`CommandPort.fits`). -/
structure CommandPort where
  valid : Bool
  op    : Bool
  port  : Nat
  pin   : Nat
  tmr   : Nat
  deriving DecidableEq, Repr

/-- `cmd(t)` (R36, R81): no command, INIT with its operands, or READ. -/
inductive Command where
  | absent
  | init (port pin tmr : Nat)
  | read
  deriving DecidableEq, Repr

/-- The rows of spec/opcode_table.json: the no-command code and the two commands (format CMD), and
the twelve micro-operations (format USTATE). -/
inductive Instr where
  /-- NOCMD, R110, R82. -/
  | nocmd
  /-- INIT, R111: its operands come from `cmd_port`, `cmd_pin`, `cmd_tmr`, HANDLE_W bits each (`Instr.wf`). -/
  | init (port pin tmr : Nat)
  /-- READ, R112. -/
  | read
  /-- IDLE, R110. -/
  | idle
  /-- START_LOW, R130. -/
  | startLow
  /-- START_REL, R131. -/
  | startRel
  /-- ACK_LOW1, R134. -/
  | ackLow1
  /-- ACK_HIGH, R135. -/
  | ackHigh
  /-- ACK_LOW2, R136. -/
  | ackLow2
  /-- BIT_RISE, R151. -/
  | bitRise
  /-- BIT_HOLD, R152, R153. -/
  | bitHold
  /-- BIT_FALL, R154, R155. -/
  | bitFall
  /-- DECODE, R170. -/
  | decode
  /-- DONE, R178. -/
  | done
  /-- TIMEDOUT, R195. -/
  | timedout
  deriving DecidableEq, Repr

/-- The two word formats of spec/opcode_table.json: CMD (2 bits, R80) and USTATE (4 bits, R83). -/
inductive Format where
  | cmd | ustate
  deriving DecidableEq, Repr

/-- What the block decodes an instruction from: the command port (R80) or the code in ST (R83). -/
inductive Encoded where
  | command (p : CommandPort)
  | stateCode (c : BitVec 4)
  deriving DecidableEq, Repr

end Sys2Proof
end

