-- ==== Sys2Proof/WellFormed.lean ====
section
/-! DEFINITION. Which instructions and encoded words are well formed. The only operands are the handles of
INIT, HANDLE_W bits each (R80, R111). -/

namespace Sys2Proof

/-- A handle of HANDLE_W bits (R22, R80), in the block with the given parameters. -/
def handleFits (p : Config.Params) (h : Nat) : Bool := h < 2 ^ p.handleW

/-- A well-formed instruction of the block: INIT's operands have HANDLE_W bits (R111); no other instruction
has an operand. -/
def Instr.wf (p : Config.Params) : Instr → Bool
  | .init port pin tmr => handleFits p port && handleFits p pin && handleFits p tmr
  | .nocmd | .read | .idle | .startLow | .startRel | .ackLow1 | .ackHigh | .ackLow2
  | .bitRise | .bitHold | .bitFall | .decode | .done | .timedout => true

/-- A command port of the block: three operand ports of HANDLE_W bits (R80). -/
def CommandPort.fits (p : Config.Params) (c : CommandPort) : Bool :=
  handleFits p c.port && handleFits p c.pin && handleFits p c.tmr

/-- R84: codes 12 to 15 select no micro-operation. -/
def stateCodeAssigned (c : BitVec 4) : Bool := c.toNat < 12

/-- A command port with every ignored bit 0 (R95 says which bits are ignored): `cmd_op` and the
operands where no command is presented, the operands where READ is. -/
def CommandPort.canonical (p : CommandPort) : Bool :=
  match p.valid, p.op with
  | false, op    => !op && p.port == 0 && p.pin == 0 && p.tmr == 0
  | true, false  => true
  | true, true   => p.port == 0 && p.pin == 0 && p.tmr == 0

/-- An encoded instruction in canonical form: an assigned state code, or a command port whose ignored
bits are 0. A command port that is not canonical still decodes (R95); it is only not the encoder's word. -/
def Encoded.wf : Encoded → Bool
  | .command p   => p.canonical
  | .stateCode c => stateCodeAssigned c

end Sys2Proof
end

