-- ==== Sys2Proof/Decode.lean ====
section
/-! DEFINITION. The decoder and the encoder (spec/30_encoding.md R80 to R84, R95). -/

namespace Sys2Proof

/-- Why a word is rejected. -/
inductive DecodeError where
  /-- Codes 12 to 15 of ST select no micro-operation (R84). -/
  | reservedStateCode
  /-- The word has a bit set above the width of its format. -/
  | wordTooWide
  deriving DecidableEq, Repr

/-- `cmd(t)` from the command port (R36, R82): "`none` if `cmd_valid(t)` = 0, else INIT or READ by
`cmd_op(t)`". `cmd_op` and the operand ports are ignored where R95 says so. -/
def decodeCommand (p : CommandPort) : Command :=
  match p.valid, p.op with
  | false, _    => .absent
  | true, false => .init p.port p.pin p.tmr
  | true, true  => .read

/-- The micro-operation of a 4-bit state code (R83), or the rejection of a reserved one (R84). -/
def decodeStateCode (c : BitVec 4) : Except DecodeError SeqState :=
  match c.toNat with
  | 0  => .ok .idle
  | 1  => .ok .startLow
  | 2  => .ok .startRel
  | 3  => .ok .ackLow1
  | 4  => .ok .ackHigh
  | 5  => .ok .ackLow2
  | 6  => .ok .bitRise
  | 7  => .ok .bitHold
  | 8  => .ok .bitFall
  | 9  => .ok .decode
  | 10 => .ok .done
  | 11 => .ok .timedout
  | _  => .error .reservedStateCode

/-- The instruction a command is. -/
def Command.instr : Command → Instr
  | .absent           => .nocmd
  | .init port pin tmr => .init port pin tmr
  | .read             => .read

/-- The instruction a sequencer state selects (R83: "The micro-operation of a tick is selected by ST
alone"). -/
def SeqState.instr : SeqState → Instr
  | .idle     => .idle
  | .startLow => .startLow
  | .startRel => .startRel
  | .ackLow1  => .ackLow1
  | .ackHigh  => .ackHigh
  | .ackLow2  => .ackLow2
  | .bitRise  => .bitRise
  | .bitHold  => .bitHold
  | .bitFall  => .bitFall
  | .decode   => .decode
  | .done     => .done
  | .timedout => .timedout

/-- The decoder: total, rejecting by name. -/
def decode : Encoded → Except DecodeError Instr
  | .command p   => .ok (decodeCommand p).instr
  | .stateCode c => (decodeStateCode c).map SeqState.instr

/-- The command port that presents no command, every ignored bit 0 (log 12). -/
def CommandPort.absent : CommandPort :=
  { valid := false, op := false, port := 0, pin := 0, tmr := 0 }

/-- The code of a sequencer state (R83). -/
def SeqState.code : SeqState → BitVec 4
  | .idle     => 0b0000#4
  | .startLow => 0b0001#4
  | .startRel => 0b0010#4
  | .ackLow1  => 0b0011#4
  | .ackHigh  => 0b0100#4
  | .ackLow2  => 0b0101#4
  | .bitRise  => 0b0110#4
  | .bitHold  => 0b0111#4
  | .bitFall  => 0b1000#4
  | .decode   => 0b1001#4
  | .done     => 0b1010#4
  | .timedout => 0b1011#4

/-- The encoder, from the tables of R82 and R83; ignored bits are 0 (log 12). -/
def encode : Instr → Encoded
  | .nocmd             => .command CommandPort.absent
  | .init port pin tmr => .command { valid := true, op := false, port, pin, tmr }
  | .read              => .command { valid := true, op := true, port := 0, pin := 0, tmr := 0 }
  | .idle              => .stateCode SeqState.idle.code
  | .startLow          => .stateCode SeqState.startLow.code
  | .startRel          => .stateCode SeqState.startRel.code
  | .ackLow1           => .stateCode SeqState.ackLow1.code
  | .ackHigh           => .stateCode SeqState.ackHigh.code
  | .ackLow2           => .stateCode SeqState.ackLow2.code
  | .bitRise           => .stateCode SeqState.bitRise.code
  | .bitHold           => .stateCode SeqState.bitHold.code
  | .bitFall           => .stateCode SeqState.bitFall.code
  | .decode            => .stateCode SeqState.decode.code
  | .done              => .stateCode SeqState.done.code
  | .timedout          => .stateCode SeqState.timedout.code

/-- The command port whose word `{valid, op}` is `w` (R80: "valid as bit 1 and op as bit 0"), with the
operand ports 0: "the three operand ports are separate and carry no opcode bits". -/
def CommandPort.ofWord (w : BitVec 2) : CommandPort :=
  { valid := w.getLsbD 1, op := w.getLsbD 0, port := 0, pin := 0, tmr := 0 }

/-- The word `{valid, op}` of a command port (R80). -/
def CommandPort.word (p : CommandPort) : BitVec 2 := BitVec.ofBool p.valid ++ BitVec.ofBool p.op

/-- A word of one of the table's two formats, as the encoded form it stands for. -/
def Encoded.ofWord (f : Format) (w : Nat) : Except DecodeError Encoded :=
  match f with
  | .cmd    => if w < 4 then .ok (.command (CommandPort.ofWord (BitVec.ofNat 2 w))) else .error .wordTooWide
  | .ustate => if w < 16 then .ok (.stateCode (BitVec.ofNat 4 w)) else .error .wordTooWide

/-- The decoder on a word of one of the two formats. -/
def decodeWord (f : Format) (w : Nat) : Except DecodeError Instr := (Encoded.ofWord f w).bind decode

/-- Which format a word of `nbits` bits has: fewer than 4 bits can only be a CMD word, 4 bits or more
(a whole byte among them) are read as a USTATE word. DESIGN CHOICE (log 7): the two formats share
numbers, and in a whole byte nothing tells them apart. -/
def Format.ofWidth (nbits : Nat) : Format := if nbits < 4 then .cmd else .ustate

/-- The instruction the decoder reads from a table word of `nbits` bits. -/
def decodeTableWord (nbits w : Nat) : Option Instr := (decodeWord (Format.ofWidth nbits) w).toOption

end Sys2Proof
end

