-- ==== Sys2Proof/Machine/State.lean ====
section
/-! DEFINITION. The state of the block (spec/10_state.md R20), the inputs of a tick (R36), the reasons
a step can stop, and the state after reset (spec/70_reset_and_hazards.md R220). -/

namespace Sys2Proof.Machine

/-- I(t), the inputs of one tick (R10, R36): `rst`, the command port, `line_in`. -/
structure Input where
  rst  : Bool
  cmd  : CommandPort
  line : Level
  deriving DecidableEq, Repr

/-- Why the machine stops. The spec has no fault (R11, R192); the one here is the model's own. -/
inductive Fault where
  /-- Raised by BIT_HOLD's sample when BITIDX is 40 or more. R61: "An address of 40 or more cannot be
  formed", so no reachable state raises it (log 4). Safe. -/
  | slotOutOfRange
  deriving DecidableEq, Repr

/-- Why a step has no meaning: the complete list of R192, and the name kept for an instruction without
a meaning. -/
inductive Refusal where
  /-- No arm of exec raises it: every instruction has its meaning. Safe. -/
  | notModelled (mnemonic : String)
  /-- Raised by READ in IDLE with INITED = 0 (R114). Safe. -/
  | readBeforeInit
  /-- Raised by INIT in IDLE with INITED = 1 (R115). Safe. -/
  | repeatedInit
  /-- Raised by every micro-operation but IDLE when a command is presented, and so by INIT and READ when
  ST is not IDLE (R113). Safe. -/
  | commandWhileBusy
  deriving DecidableEq, Repr

/-- The complete state of the block (R20), and three fields of the model's own: the parameters of the block
(log 5), the number of the tick and the inputs still to come (log 1). -/
structure State where
  /-- The parameters of R8. "Constants of the model" (R37): no tick writes them (log 5). -/
  params  : Config.Params
  /-- INITED (R21). -/
  inited  : Bool
  /-- CFG_PORT (R22). -/
  cfgPort : Nat
  /-- CFG_PIN (R22). -/
  cfgPin  : Nat
  /-- CFG_TMR (R22). -/
  cfgTmr  : Nat
  /-- TMR_RUN (R23). -/
  tmrRun  : Bool
  /-- CNT (R24). -/
  cnt     : Nat
  /-- DLY (R25). -/
  dly     : Nat
  /-- ST (R26). -/
  st      : SeqState
  /-- BITIDX (R27). -/
  bitIdx  : SlotIndex
  /-- BITBUF (R28). -/
  bitBuf  : Slots
  /-- DIR (R29). -/
  dir     : PinMode
  /-- OUT (R30). -/
  out     : Level
  /-- HUM_INT (R31). -/
  humInt  : Byte
  /-- HUM_FRAC (R31). -/
  humFrac : Byte
  /-- TMP_INT (R31). -/
  tmpInt  : Byte
  /-- TMP_FRAC (R31). -/
  tmpFrac : Byte
  /-- HUM_X10 (R32). -/
  humX10  : Tenths
  /-- TMP_X10 (R32). -/
  tmpX10  : Tenths
  /-- FAILED (R33). -/
  failed  : Bool
  /-- RVALID (R34). -/
  rvalid  : Bool
  /-- The number t of the tick (R10); the model's own field, it numbers the free values (log 1). -/
  tick    : Nat
  /-- I(t), I(t+1), … still to come; the model's own field (log 1). -/
  inputs  : List Input
  deriving DecidableEq, Repr

/-- The reset state (R220) of the block with the given parameters: the column "reset" of R20. S(0) is this
state, so the tick number is 0; no input is scripted (log 1). -/
def State.resetWith (p : Config.Params) : State where
  params  := p
  inited  := false
  cfgPort := 0
  cfgPin  := 0
  cfgTmr  := 0
  tmrRun  := false
  cnt     := 0
  dly     := 0
  st      := .idle
  bitIdx  := 0
  bitBuf  := Vector.replicate 40 false
  dir     := .input
  out     := true
  humInt  := 0
  humFrac := 0
  tmpInt  := 0
  tmpFrac := 0
  humX10  := 0
  tmpX10  := 0
  failed  := false
  rvalid  := false
  tick    := 0
  inputs  := []

/-- The reset state of the block whose parameters have the defaults of R8 (log 5). -/
def State.reset : State := State.resetWith Config.defaults

end Sys2Proof.Machine
end

