-- ==== Sys2Proof/Machine/Operands.lean ====
section
/-! DEFINITION. The operand forms of the block: the slot space (spec/20_memory.md R60 to R64), the four
fields and the two readings (spec/30_encoding.md R90 to R92, spec/43_decode.md R171, R172), the registers whose width is a parameter. -/

namespace Sys2Proof.Machine

/-- A number in a register of `w` bits: modulo `2^w` (R204 for CNT; R179 for DLY, which never wraps; the ports of
INIT have HANDLE_W bits and no other, R80). -/
def wrap (w n : Nat) : Nat := n % 2 ^ w

/-- `SlotRead(i)` (R14): the bit of slot i, 0 ≤ i ≤ 39. -/
def slotRead (b : Slots) (i : Fin 40) : Level := b[i]

/-- `SlotWrite(i, b)` (R14, R62): sets cell i and leaves every other cell. `none` for an address of 40 or
more, which R61 says cannot be formed (log 4). -/
def slotWrite (b : Slots) (i : SlotIndex) (v : Level) : Option Slots :=
  if h : i.toNat < 40 then some (b.set i.toNat v h) else none

/-- All 40 cells 0 (R112: `for i in 0..39: SlotWrite(i, 0)`). -/
def slotsCleared : Slots := Vector.replicate 40 false

/-- The four decoded fields, in the order of reception (R90). -/
inductive DataField where
  | humInt | humFrac | tmpInt | tmpFrac
  deriving DecidableEq, Repr

/-- The slot at which a field begins: 0, 8, 16, 24 (R65, R90). -/
def DataField.slot : DataField → Nat
  | .humInt  => 0
  | .humFrac => 8
  | .tmpInt  => 16
  | .tmpFrac => 24

/-- The address of bit k of a field, k = 0 the first received. -/
def DataField.cell (f : DataField) (k : Fin 8) : Fin 40 := ⟨f.slot + k, by cases f <;> simp [DataField.slot] <;> omega⟩

/-- `field(s)` (R171): the eight cells of the field, the slot received first the most significant bit. -/
def fieldValue (b : Slots) (f : DataField) : Byte :=
  BitVec.ofBool (slotRead b (f.cell 0)) ++ BitVec.ofBool (slotRead b (f.cell 1)) ++
  BitVec.ofBool (slotRead b (f.cell 2)) ++ BitVec.ofBool (slotRead b (f.cell 3)) ++
  BitVec.ofBool (slotRead b (f.cell 4)) ++ BitVec.ofBool (slotRead b (f.cell 5)) ++
  BitVec.ofBool (slotRead b (f.cell 6)) ++ BitVec.ofBool (slotRead b (f.cell 7))

/-- A reading in tenths (R172): `10 * I + F` in 12 bits. -/
def tenths (i f : Byte) : Tenths := BitVec.ofNat 12 Config.fracDiv * i.setWidth 12 + f.setWidth 12

/-- The view FRAME[39:0] of the 40 cells, FRAME[39 - i] = cell i (R64). -/
def frame (b : Slots) : BitVec 40 := BitVec.ofNat 40 (b.toList.foldl (fun acc v => 2 * acc + v.toNat) 0)

end Sys2Proof.Machine
end

