-- ==== Sys2Proof/Machine/Flags.lean ====
section
/-! DEFINITION. Every test a micro-operation makes and every status the block shows: the comparisons of
spec/43_decode.md R179, the timer update of spec/60_exceptions.md R204, `busy` and `done` of
spec/10_state.md R35. -/

namespace Sys2Proof.Machine

/-- The timeout-check helper (R133): `TimerRead() > TIMEOUT_TICKS`, unsigned. -/
def timeoutExceeded (s : State) : Bool := decide (Config.timeoutTicks < s.cnt)

/-- The test of the sampling delay (R152): `TimerRead() < SAMPLE_DELAY_TICKS`, unsigned. -/
def delayRunning (s : State) : Bool := decide (s.cnt < Config.sampleDelayTicks)

/-- The end of the start pulse (R130): `DLY = START_LOW_TICKS - 1`, for the block's START_LOW_TICKS. -/
def startPulseEnds (s : State) : Bool := s.dly == s.params.startLowTicks - 1

/-- The index test of BIT_FALL (R155): `BITIDX = 39`. -/
def lastSlot (s : State) : Bool := s.bitIdx == 39#6

/-- The default counter update (R204), modulo `2^CNT_W`, before a `TimerReset()` of the same tick overrides it. -/
def countedUp (s : State) : Nat := if s.tmrRun then wrap s.params.cntW (s.cnt + 1) else s.cnt

/-- Output `busy` (R35): ST is not IDLE. -/
def busy (s : State) : Bool := s.st != .idle

/-- Output `done` (R35): ST is DONE or TIMEDOUT. -/
def doneFlag (s : State) : Bool := s.st == .done || s.st == .timedout

end Sys2Proof.Machine
end

