-- ==== Sys2Proof/Machine/Ops.lean ====
section
/-! DEFINITION. The operations the micro-operations share: the primitives of spec/00_scope.md R14, the
default effect of a tick (R15), the wait helper (spec/41_start_and_handshake.md R132), taking a Timeout
(spec/60_exceptions.md R193) and returning from it (R195), reset (R220). A micro-operation reads S(t), the state `s` it is
given, and writes S(t+1), built from `s.advance`. -/

namespace Sys2Proof.Machine

/-- The three outcomes of a tick. -/
abbrev Result := Host.Outcome State Fault Refusal

/-- The inputs of a tick for which `inputs` holds no entry: no reset, no command, and a level that nothing
constrains (log 1). -/
def Input.unscripted (tick : Nat) : Input :=
  { rst := false, cmd := CommandPort.absent, line := Config.freeLevel tick }

/-- I(t), the inputs of this tick (R10, R36). -/
def State.input (s : State) : Input := s.inputs.headD (Input.unscripted s.tick)

/-- `cmd(t)` (R36). -/
def State.command (s : State) : Command := decodeCommand s.input.cmd

/-- `LineRead()` (R14, R67): the level of the line in this tick. It has no side effect. R14 calls it legal
only while DIR = 0; the model gives the level whatever DIR is (log 11). -/
def State.lineRead (s : State) : Level := s.input.line

/-- The default effect of a tick: the counter update of R204, every other register kept (R12), this tick's
inputs used up. -/
def State.advance (s : State) : State :=
  { s with cnt := countedUp s, tick := s.tick + 1, inputs := s.inputs.tail }

/-- `ST' <- x` (R14). -/
def State.goto (s : State) (x : SeqState) : State := { s with st := x }

/-- `TimerStart()` (R14, R203). -/
def State.timerStart (s : State) : State := { s with tmrRun := true }

/-- `TimerReset()` (R14, R70): overrides the increment of the same tick. -/
def State.timerReset (s : State) : State := { s with cnt := 0 }

/-- `LineDir(d)` (R14, R68). -/
def State.lineDir (s : State) (d : PinMode) : State := { s with dir := d }

/-- `LineWrite(v)` (R14, R68). -/
def State.lineWrite (s : State) (v : Level) : State := { s with out := v }

/-- `raise Timeout` (R193): the ONE exception's entry. Nothing is saved; the six data registers take
unconstrained values (R194), free values numbered by `tick`, the tick of the poll (log 2). -/
def State.raiseTimeout (s : State) (tick : Nat) : State :=
  { s with
    failed  := true
    rvalid  := true
    humInt  := Config.freeHumInt tick
    humFrac := Config.freeHumFrac tick
    tmpInt  := Config.freeTmpInt tick
    tmpFrac := Config.freeTmpFrac tick
    humX10  := Config.freeHumX10 tick
    tmpX10  := Config.freeTmpX10 tick
    st      := .timedout }

/-- The return from a Timeout (R195), which is also DONE's end of a read (R178): back to IDLE, nothing
restored. -/
def State.endRead (s : State) : State := s.goto .idle

/-- The reset state as S(t+1) (R220): every register at its reset value. The parameters are
the block's; the tick number and the inputs still to come are the model's own and go on (logs 5 and 1). -/
def State.resetTick (s : State) : State :=
  { State.resetWith s.params with tick := s.tick + 1, inputs := s.inputs.tail }

/-- A micro-operation other than IDLE refuses a command presented in its tick (R113, R15 (4), R200 (3)). -/
def refuseIfCommand (s : State) (r : Result) : Result :=
  match s.command with
  | .absent     => r
  | .init _ _ _ => .refused .commandWhileBusy
  | .read       => .refused .commandWhileBusy

/-- `WAIT(L, next)` (R132), its success written as what it does to the state after the default effect and
the `TimerReset()`. The level is tested before the budget; a stay keeps ST. -/
def waitFor (level : Level) (succeed : State → State) (s : State) : State :=
  if s.lineRead = level then succeed s.advance.timerReset
  else if timeoutExceeded s then s.advance.raiseTimeout s.tick
  else s.advance

/-- What INIT stores (R111): the three handles, HANDLE_W bits each, and INITED. -/
def State.storeHandles (s : State) (port pin tmr : Nat) : State :=
  { s with
    cfgPort := wrap s.params.handleW port
    cfgPin  := wrap s.params.handleW pin
    cfgTmr  := wrap s.params.handleW tmr
    inited  := true }

/-- Admission of INIT in IDLE (R111, R115). -/
def admitInit (port pin tmr : Nat) (s : State) : Result :=
  if s.inited then .refused .repeatedInit
  else .next ((s.advance.storeHandles port pin tmr).timerStart.goto .idle)

/-- What READ clears (R112): DLY, BITIDX, every cell of BITBUF, RVALID. -/
def State.clearForRead (s : State) : State :=
  { s with dly := 0, bitIdx := 0, bitBuf := slotsCleared, rvalid := false }

/-- Admission of READ in IDLE (R112, R114). -/
def admitRead (s : State) : Result :=
  if s.inited then .next ((((s.advance.lineDir .output).lineWrite false).clearForRead).goto .startLow)
  else .refused .readBeforeInit

/-- The state in which the very next step runs instruction `i`: a command stands on the command port of the
tick, a micro-operation in ST with no command presented; `rst` is 0 (log 6). Where no input is scripted,
the line of that tick is high, R98: "ticks not covered default to high". -/
def State.place (s : State) (i : Instr) : State :=
  let here := s.inputs.headD { rst := false, cmd := CommandPort.absent, line := true }
  let present (p : CommandPort) : State :=
    { s with inputs := { here with rst := false, cmd := p } :: s.inputs.tail }
  match encode i with
  | .command p   => present p
  | .stateCode c =>
    match decodeStateCode c with
    | .ok x    => (present CommandPort.absent).goto x
    | .error _ => s

end Sys2Proof.Machine
end

