-- ==== Sys2Proof/Machine/Decoder.lean ====
section
/-! DEFINITION. The field decoder and the two endings of a read: DECODE, DONE (spec/43_decode.md R170 to
R178) and TIMEDOUT (spec/60_exceptions.md R195). -/

namespace Sys2Proof.Machine

/-- The nine writes of DECODE but for ST (R170), all at one tick boundary (R66). -/
def State.writeResult (s : State) (b : Slots) : State :=
  { s with
    humInt  := fieldValue b .humInt
    humFrac := fieldValue b .humFrac
    tmpInt  := fieldValue b .tmpInt
    tmpFrac := fieldValue b .tmpFrac
    humX10  := tenths (fieldValue b .humInt) (fieldValue b .humFrac)
    tmpX10  := tenths (fieldValue b .tmpInt) (fieldValue b .tmpFrac)
    failed  := false
    rvalid  := true }

/-- DECODE with no command (R170). -/
def decodeTick (s : State) : Result := .next ((s.advance.writeResult s.bitBuf).goto .done)

/-- DECODE (R170). -/
def execDecode (s : State) : Result := refuseIfCommand s (decodeTick s)

/-- DONE with no command (R178). -/
def doneTick (s : State) : Result := .next s.advance.endRead

/-- DONE (R178). -/
def execDone (s : State) : Result := refuseIfCommand s (doneTick s)

/-- TIMEDOUT with no command (R195). -/
def timedoutTick (s : State) : Result := .next s.advance.endRead

/-- TIMEDOUT (R195). -/
def execTimedout (s : State) : Result := refuseIfCommand s (timedoutTick s)

end Sys2Proof.Machine
end

