-- ==== Sys2Proof/Machine/Deserializer.lean ====
section
/-! DEFINITION. The bit deserializer: BIT_RISE, BIT_HOLD, BIT_FALL (spec/42_bit_deserializer.md R150 to
R155). -/

namespace Sys2Proof.Machine

/-- BIT_RISE with no command: `WAIT(1, BIT_HOLD)` (R151). -/
def bitRiseTick (s : State) : Result := .next (waitFor true (·.goto .bitHold) s)

/-- BIT_RISE (R151). -/
def execBitRise (s : State) : Result := refuseIfCommand s (bitRiseTick s)

/-- The one sample of a slot (R153): the level goes to cell BITIDX. -/
def sampleTick (s : State) : Result :=
  match slotWrite s.bitBuf s.bitIdx s.lineRead with
  | some b => .next ({ s.advance with bitBuf := b }.timerReset.goto .bitFall)
  | none   => .fault .slotOutOfRange

/-- BIT_HOLD with no command: the delay (R152), then the sample (R153). -/
def bitHoldTick (s : State) : Result :=
  if delayRunning s then .next (s.advance.goto .bitHold) else sampleTick s

/-- BIT_HOLD (R152, R153). -/
def execBitHold (s : State) : Result := refuseIfCommand s (bitHoldTick s)

/-- What a successful BIT_FALL poll does (R155), after the wait's `TimerReset()`. -/
def State.endSlot (s : State) : State :=
  if lastSlot s then s.goto .decode else { s with bitIdx := s.bitIdx + 1 }.goto .bitRise

/-- BIT_FALL with no command: `WAIT(0, next)` with the index update (R154, R155). -/
def bitFallTick (s : State) : Result := .next (waitFor false State.endSlot s)

/-- BIT_FALL (R154, R155). -/
def execBitFall (s : State) : Result := refuseIfCommand s (bitFallTick s)

end Sys2Proof.Machine
end

