-- ==== Sys2Proof/Machine/Handshake.lean ====
section
/-! DEFINITION. The handshake preamble: ACK_LOW1, ACK_HIGH, ACK_LOW2 (spec/41_start_and_handshake.md
R134 to R136). -/

namespace Sys2Proof.Machine

/-- ACK_LOW1 with no command: `WAIT(0, ACK_HIGH)` (R134). -/
def ackLow1Tick (s : State) : Result := .next (waitFor false (·.goto .ackHigh) s)

/-- ACK_LOW1 (R134). -/
def execAckLow1 (s : State) : Result := refuseIfCommand s (ackLow1Tick s)

/-- ACK_HIGH with no command: `WAIT(1, ACK_LOW2)` (R135). -/
def ackHighTick (s : State) : Result := .next (waitFor true (·.goto .ackLow2) s)

/-- ACK_HIGH (R135). -/
def execAckHigh (s : State) : Result := refuseIfCommand s (ackHighTick s)

/-- ACK_LOW2 with no command: `WAIT(0, BIT_RISE)` (R136). -/
def ackLow2Tick (s : State) : Result := .next (waitFor false (·.goto .bitRise) s)

/-- ACK_LOW2 (R136). -/
def execAckLow2 (s : State) : Result := refuseIfCommand s (ackLow2Tick s)

end Sys2Proof.Machine
end

