-- ==== Sys2Proof/Machine/StartSignal.lean ====
section
/-! DEFINITION. START_LOW and START_REL (spec/41_start_and_handshake.md R130, R131). Each
micro-operation has its tick without a command and, as its meaning, the tick that refuses one (R113). -/

namespace Sys2Proof.Machine

/-- START_LOW with no command in the tick (R130). -/
def startLowTick (s : State) : Result :=
  if startPulseEnds s then .next ((s.advance.lineWrite true).goto .startRel)
  else .next ({ s.advance with dly := wrap s.params.dlyW (s.dly + 1) }.goto .startLow)

/-- START_LOW (R130). -/
def execStartLow (s : State) : Result := refuseIfCommand s (startLowTick s)

/-- START_REL with no command in the tick (R131). -/
def startRelTick (s : State) : Result := .next ((s.advance.lineDir .input).timerReset.goto .ackLow1)

/-- START_REL (R131). -/
def execStartRel (s : State) : Result := refuseIfCommand s (startRelTick s)

end Sys2Proof.Machine
end

