-- ==== Sys2Proof/Machine/Commands.lean ====
section
/-! DEFINITION. IDLE, the no-command code and the two commands (spec/40_commands.md R110 to R115). A tick
is a pair (command, micro-operation) with one effect (R15); a command's meaning is that tick read from the
command port, a micro-operation's the same tick read from ST (log 10). -/

namespace Sys2Proof.Machine

/-- IDLE with no command (R110). -/
def idleTick (s : State) : Result := .next (s.advance.goto .idle)

/-- IDLE (R110; R15 (4): a command "is consumed by the IDLE micro-operation"). -/
def execIdle (s : State) : Result :=
  match s.command with
  | .absent            => idleTick s
  | .init port pin tmr => admitInit port pin tmr s
  | .read              => admitRead s

/-- The micro-operation that ST selects, with no command in the tick (R83). -/
def selectedTick (s : State) : Result :=
  match s.st with
  | .idle     => idleTick s
  | .startLow => startLowTick s
  | .startRel => startRelTick s
  | .ackLow1  => ackLow1Tick s
  | .ackHigh  => ackHighTick s
  | .ackLow2  => ackLow2Tick s
  | .bitRise  => bitRiseTick s
  | .bitHold  => bitHoldTick s
  | .bitFall  => bitFallTick s
  | .decode   => decodeTick s
  | .done     => doneTick s
  | .timedout => timedoutTick s

/-- NOCMD, no command in this tick (R110, R82): "In IDLE the state holds; in every other state the
micro-operation selected by ST runs alone" (opcode_table.json). -/
def execNocmd (s : State) : Result := selectedTick s

/-- INIT (R111), refused when busy (R113) and when it is a second one (R115). -/
def execInit (port pin tmr : Nat) (s : State) : Result :=
  if busy s then .refused .commandWhileBusy else admitInit port pin tmr s

/-- READ (R112), refused when busy (R113) and before INIT (R114). -/
def execRead (s : State) : Result := if busy s then .refused .commandWhileBusy else admitRead s

end Sys2Proof.Machine
end

