-- ==== Sys2Proof/Machine/Dispatch.lean ====
section
/-! DEFINITION. exec: one arm per instruction, each one direct call of its meaning. -/

namespace Sys2Proof.Machine

def exec (i : Instr) (s : State) : Host.Outcome State Fault Refusal :=
  match i with
  | .nocmd => Sys2Proof.Machine.execNocmd s
  | .init port pin tmr => Sys2Proof.Machine.execInit port pin tmr s
  | .read => Sys2Proof.Machine.execRead s
  | .idle => Sys2Proof.Machine.execIdle s
  | .startLow => Sys2Proof.Machine.execStartLow s
  | .startRel => Sys2Proof.Machine.execStartRel s
  | .ackLow1 => Sys2Proof.Machine.execAckLow1 s
  | .ackHigh => Sys2Proof.Machine.execAckHigh s
  | .ackLow2 => Sys2Proof.Machine.execAckLow2 s
  | .bitRise => Sys2Proof.Machine.execBitRise s
  | .bitHold => Sys2Proof.Machine.execBitHold s
  | .bitFall => Sys2Proof.Machine.execBitFall s
  | .decode => Sys2Proof.Machine.execDecode s
  | .done => Sys2Proof.Machine.execDone s
  | .timedout => Sys2Proof.Machine.execTimedout s

end Sys2Proof.Machine
end

