-- ==== Sys2Proof/Machine/Step.lean ====
section
/-! DEFINITION. One tick of the block (spec/00_scope.md R10, R15). -/

namespace Sys2Proof.Machine

/-- `S(t+1) = Step(S(t), I(t))` (R10), in the order of R15: `rst` first, then the micro-operation that ST
selects, with the counter update and the command inside its meaning. -/
def step (s : State) : Host.Outcome State Fault Refusal :=
  if s.input.rst then .next s.resetTick else exec s.st.instr s

/-- `s` with the instruction of a table word placed where the next step takes it from: a CMD word on the
command port of the tick, a USTATE word in ST (log 6). A word the decoder rejects changes nothing. -/
def State.withFetchWord (s : State) (nbits w : Nat) : State :=
  match decodeTableWord nbits w with
  | some i => s.place i
  | none   => s

end Sys2Proof.Machine
end

