-- ==== Sys2Proof/Machine/Outputs.lean ====
section
/-! DEFINITION. What the outside sees (spec/10_state.md R35): the output ports, the readings as numbers
(spec/43_decode.md R173), and the line as a test environment may resolve it (spec/20_memory.md R69). -/

namespace Sys2Proof.Machine

/-- The output ports (R35). -/
structure Outputs where
  lineOe  : Bool
  lineOut : Level
  busy    : Bool
  done    : Bool
  inited  : Bool
  rvalid  : Bool
  failed  : Bool
  humInt  : Byte
  humFrac : Byte
  tmpInt  : Byte
  tmpFrac : Byte
  humX10  : Tenths
  tmpX10  : Tenths
  deriving DecidableEq, Repr

/-- DIR as a bit (R13): 1 = Output, 0 = Input. -/
def PinMode.bit : PinMode → Bool
  | .input  => false
  | .output => true

/-- "Every output is a function of S(t) alone and is valid during tick t" (R35). -/
def State.outputs (s : State) : Outputs where
  lineOe  := PinMode.bit s.dir
  lineOut := s.out
  busy    := Machine.busy s
  done    := doneFlag s
  inited  := s.inited
  rvalid  := s.rvalid
  failed  := s.failed
  humInt  := s.humInt
  humFrac := s.humFrac
  tmpInt  := s.tmpInt
  tmpFrac := s.tmpFrac
  humX10  := s.humX10
  tmpX10  := s.tmpX10

/-- The reading in percent, the rational HUM_X10 / 10 (R92, R173). Meaningful only when `rvalid` = 1 and
`failed` = 0 (R226). -/
def State.humidity (s : State) : Rat := (s.humX10.toNat : Rat) / 10

/-- The reading in degrees Celsius, the rational TMP_X10 / 10 (R92, R173). -/
def State.temperature (s : State) : Rat := (s.tmpX10.toNat : Rat) / 10

/-- The level on the wire as R69 lets a test environment resolve it: OUT while the block drives, else low
exactly when the sensor pulls low. No step uses it: `line_in` is an input (log 15). -/
def State.wireLevel (s : State) (sensorPullsLow : Bool) : Level :=
  match s.dir with
  | .output => s.out
  | .input  => !sensorPullsLow

end Sys2Proof.Machine
end

