-- ==== Sys2Proof/Safety.lean ====
section
/-! DEFINITION. The terms in which claims are made: runs, input streams, what the host must do
(spec/40_commands.md R118), the classes of sequencer states, the invariants of spec/10_state.md R42. -/

namespace Sys2Proof.Machine

/-- `n` ticks, stopping at the first that does not answer a next state. -/
def run : Nat → State → Result
  | 0, s => .next s
  | n + 1, s =>
    match step s with
    | .next t    => run n t
    | .fault r   => .fault r
    | .refused r => .refused r

/-- I(t + k), the inputs of the tick k ticks from now. -/
def State.inputAt (s : State) (k : Nat) : Input := (s.inputs[k]?).getD (Input.unscripted (s.tick + k))

/-- `line_in(t + k)`. -/
def State.lineAt (s : State) (k : Nat) : Level := (s.inputAt k).line

/-- A tick with no reset and no command. -/
def Input.quiet (i : Input) : Bool := !i.rst && !i.cmd.valid

/-- The quiet input with the given level. -/
def Input.level (v : Level) : Input := { rst := false, cmd := CommandPort.absent, line := v }

/-- The next `n` ticks are quiet. -/
def State.quietFor (s : State) (n : Nat) : Prop := ∀ k < n, (s.inputAt k).quiet = true

/-- What the host must do (R118): issue INIT only in IDLE before it is initialised, READ only in IDLE
after; a command in a reset tick is dropped. -/
def hostObeys (s : State) : Bool :=
  s.input.rst ||
  match s.command with
  | .absent     => true
  | .init _ _ _ => !busy s && !s.inited
  | .read       => !busy s && s.inited

/-- Two outcomes are of one kind, their next states related by `r`. -/
def outcomesAgree (r : State → State → Prop) : Result → Result → Prop
  | .next s, .next t       => r s t
  | .fault a, .fault b     => a = b
  | .refused a, .refused b => a = b
  | _, _                   => False

/-- A state with the data that a Timeout in its last tick drew set aside: R194, "no claim may depend on them".
Where ST is not TIMEDOUT nothing was drawn. -/
def State.undrawn (s : State) : State :=
  if s.st = .timedout then
    { s with humInt := 0, humFrac := 0, tmpInt := 0, tmpFrac := 0, humX10 := 0, tmpX10 := 0 }
  else s

/-- The level a wait micro-operation waits for (R134 to R136, R151, R154); `none` for the others. -/
def waitedLevel : SeqState → Option Level
  | .ackLow1 => some false
  | .ackHigh => some true
  | .ackLow2 => some false
  | .bitRise => some true
  | .bitFall => some false
  | .idle | .startLow | .startRel | .bitHold | .decode | .done | .timedout => none

/-- One of the five waits (R191). -/
def isWait (x : SeqState) : Bool := (waitedLevel x).isSome

/-- Where a successful poll goes (R134 to R136, R151, R155). -/
def waitSuccessor (s : State) : SeqState :=
  match s.st with
  | .ackLow1 => .ackHigh
  | .ackHigh => .ackLow2
  | .ackLow2 => .bitRise
  | .bitRise => .bitHold
  | .bitFall => if s.bitIdx = 39#6 then .decode else .bitRise
  | x => x

/-- A read is in progress and has not yet produced its result (R42 (g)). -/
def isReading : SeqState → Bool
  | .startLow | .startRel | .ackLow1 | .ackHigh | .ackLow2 | .bitRise | .bitHold | .bitFall | .decode => true
  | .idle | .done | .timedout => false

/-- The edges of R38, with the states that may stay in place. -/
def edge : SeqState → SeqState → Bool
  | .idle, .idle | .idle, .startLow
  | .startLow, .startLow | .startLow, .startRel
  | .startRel, .ackLow1
  | .ackLow1, .ackLow1 | .ackLow1, .ackHigh | .ackLow1, .timedout
  | .ackHigh, .ackHigh | .ackHigh, .ackLow2 | .ackHigh, .timedout
  | .ackLow2, .ackLow2 | .ackLow2, .bitRise | .ackLow2, .timedout
  | .bitRise, .bitRise | .bitRise, .bitHold | .bitRise, .timedout
  | .bitHold, .bitHold | .bitHold, .bitFall
  | .bitFall, .bitFall | .bitFall, .bitRise | .bitFall, .decode | .bitFall, .timedout
  | .decode, .done
  | .done, .idle
  | .timedout, .idle => true
  | _, _ => false

/-- The micro-operation of this tick performs `TimerReset()` (R204): "START_REL; each of the five waits in
the poll that succeeds; BIT_HOLD in the tick of its sample". -/
def resetsTimer (s : State) : Bool :=
  s.st == .startRel || waitedLevel s.st == some s.input.line || (s.st == .bitHold && decide (40 ≤ s.cnt))

/-- The micro-operation of this tick executes `LineRead()` (R67): the five waits, and BIT_HOLD in the tick
of its sample. -/
def readsLine (s : State) : Bool := isWait s.st || (s.st == .bitHold && decide (40 ≤ s.cnt))

/-- `raise Timeout` (R193) took state `s` to state `t`: FAILED and RVALID 1, the six data registers at any
value, ST at TIMEDOUT, the counter counting as usual, everything else kept. -/
def TimeoutEntered (s t : State) : Prop :=
  ∃ (hi hf ti tf : Byte) (hx tx : Tenths), t =
    { s with
      failed := true, rvalid := true,
      humInt := hi, humFrac := hf, tmpInt := ti, tmpFrac := tf, humX10 := hx, tmpX10 := tx,
      st := .timedout,
      cnt := if s.tmrRun then (s.cnt + 1) % 2 ^ s.params.cntW else s.cnt,
      tick := s.tick + 1, inputs := s.inputs.tail }

/-- What `WAIT(L, next)` says of an instruction (R132): with the wanted level the poll succeeds, whatever
the counter; with the other level it stays while CNT is at most 200, and enters the Timeout above. `succeed` is the success but
for the counter. -/
def WaitMeaning (i : Instr) (here : SeqState) (wanted : Level) (succeed : State → State) : Prop :=
  ∀ s : State, s.st = here → s.input.cmd.valid = false →
    (s.input.line = wanted →
      exec i s = .next { succeed s with cnt := 0, tick := s.tick + 1, inputs := s.inputs.tail }) ∧
    (s.input.line ≠ wanted → s.cnt ≤ 200 →
      exec i s = .next { s with
        cnt := if s.tmrRun then (s.cnt + 1) % 2 ^ s.params.cntW else s.cnt, tick := s.tick + 1, inputs := s.inputs.tail }) ∧
    (s.input.line ≠ wanted → 200 < s.cnt → ∃ t, exec i s = .next t ∧ TimeoutEntered s t)

/-- The invariants of R42 (b) to (i), and more that other rules give: the ranges of the parameters (R8) and the
widths of the registers they size (R22, R24, R25), DLY in START_LOW (R25), FAILED in DONE and TIMEDOUT (R178, R195),
the result registers before the first result (R42 (g), R220).
R42 (a) holds by the type of ST. -/
structure Inv (s : State) : Prop where
  /-- R8: the block's parameters are in their legal ranges. -/
  legal : s.params.legal = true
  /-- R24: CNT has CNT_W bits. -/
  cnt_fits : s.cnt < 2 ^ s.params.cntW
  /-- R25: DLY has DLY_W bits. -/
  dly_fits : s.dly < 2 ^ s.params.dlyW
  /-- R22: the handles have HANDLE_W bits. -/
  handles_fit : handleFits s.params s.cfgPort = true ∧ handleFits s.params s.cfgPin = true ∧
    handleFits s.params s.cfgTmr = true
  /-- R42 (b). -/
  bitIdx_le : s.bitIdx.toNat ≤ 39
  /-- R42 (c). -/
  dir_iff : s.dir = .output ↔ s.st = .startLow ∨ s.st = .startRel
  /-- R42 (d). -/
  out_iff : s.out = false ↔ s.st = .startLow
  /-- R42 (e). -/
  busy_ready : s.st ≠ .idle → s.inited = true ∧ s.tmrRun = true
  /-- R42 (f). -/
  inited_eq : s.inited = s.tmrRun
  /-- R42 (g): a read in progress without its result. -/
  rvalid_reading : isReading s.st = true → s.rvalid = false
  /-- R42 (g): a read just ended. -/
  rvalid_ended : s.st = .done ∨ s.st = .timedout → s.rvalid = true
  /-- R42 (g): in IDLE with RVALID = 0 no read has finished since reset, so the results are as at reset. -/
  idle_fresh : s.st = .idle → s.rvalid = false →
    s.failed = false ∧ s.humInt = 0 ∧ s.humFrac = 0 ∧ s.tmpInt = 0 ∧ s.tmpFrac = 0 ∧ s.humX10 = 0 ∧ s.tmpX10 = 0
  /-- R42 (h), waits. -/
  cnt_wait : isWait s.st = true → s.cnt ≤ 201
  /-- R42 (h), BIT_HOLD. -/
  cnt_hold : s.st = .bitHold → s.cnt ≤ 40
  /-- R42 (i), humidity. -/
  humidity_eq : s.rvalid = true → s.failed = false → s.humX10.toNat = 10 * s.humInt.toNat + s.humFrac.toNat
  /-- R42 (i), temperature. -/
  temperature_eq : s.rvalid = true → s.failed = false → s.tmpX10.toNat = 10 * s.tmpInt.toNat + s.tmpFrac.toNat
  /-- R25, R130: DLY stops at START_LOW_TICKS - 1. -/
  dly_le : s.st = .startLow → s.dly ≤ s.params.startLowTicks - 1
  /-- R178: DONE shows FAILED = 0. -/
  done_good : s.st = .done → s.failed = false
  /-- R195: TIMEDOUT shows FAILED = 1. -/
  timedout_bad : s.st = .timedout → s.failed = true

/-- `s'` is what `s` is in a block with other widths and another tick period (R8): the handles and, where no wait
and no delay runs, CNT may differ; START_LOW_TICKS and everything else is the same. -/
def OtherWidths (s s' : State) : Prop :=
  ∃ (p : Config.Params) (c : Nat) (port pin tmr : Nat),
    p.startLowTicks = s.params.startLowTicks ∧ (isWait s.st = true ∨ s.st = .bitHold → c = s.cnt) ∧
    s' = { s with params := p, cnt := c, cfgPort := port, cfgPin := pin, cfgTmr := tmr }

/-- Two states of one block, in the same tick with the same inputs, that no rule tells apart but by what an earlier
read left behind (R112, R197): the handles, BITIDX, BITBUF and DLY in IDLE, CNT where nothing reads it, the result
where RVALID = 0, the data of a failed read (R194). -/
structure SameButHistory (s s' : State) : Prop where
  params_eq : s'.params = s.params
  tick_eq   : s'.tick = s.tick
  inputs_eq : s'.inputs = s.inputs
  st_eq     : s'.st = s.st
  dir_eq    : s'.dir = s.dir
  out_eq    : s'.out = s.out
  inited_eq : s'.inited = s.inited
  tmrRun_eq : s'.tmrRun = s.tmrRun
  rvalid_eq : s'.rvalid = s.rvalid
  slots_eq  : s.st ≠ .idle → s'.bitIdx = s.bitIdx ∧ s'.bitBuf = s.bitBuf ∧ s'.dly = s.dly
  cnt_eq    : isWait s.st = true ∨ s.st = .bitHold → s'.cnt = s.cnt
  failed_eq : s.rvalid = true → s'.failed = s.failed
  data_eq   : s.rvalid = true → s.failed = false →
    s'.humInt = s.humInt ∧ s'.humFrac = s.humFrac ∧ s'.tmpInt = s.tmpInt ∧ s'.tmpFrac = s.tmpFrac ∧
    s'.humX10 = s.humX10 ∧ s'.tmpX10 = s.tmpX10

/-- What BITBUF and BITIDX hold during a read (R62, R112, R159): before the first slot index 0 and all cells
0, then zeros in every cell not yet sampled. -/
structure SlotInv (s : State) : Prop where
  preamble : s.st = .startLow ∨ s.st = .startRel ∨ s.st = .ackLow1 ∨ s.st = .ackHigh ∨ s.st = .ackLow2 →
    s.bitIdx = 0 ∧ ∀ i, slotRead s.bitBuf i = false
  unsampled : s.st = .bitRise ∨ s.st = .bitHold → ∀ i : Fin 40, s.bitIdx.toNat ≤ i → slotRead s.bitBuf i = false
  sampled : s.st = .bitFall → ∀ i : Fin 40, s.bitIdx.toNat < i → slotRead s.bitBuf i = false
  complete : s.st = .decode → s.bitIdx = 39#6

end Sys2Proof.Machine
end

