-- ==== Sys2Proof/Certificates/Slice0/Obligations.lean ====
section
/-! DEFINITION. The statements for the provers, in the order of the spec's files: words, the tick, the
commands, the micro-operations one by one, the whole machine, runs. -/

open Sys2Proof Sys2Proof.Machine

/-! ### Words (spec/30_encoding.md) -/

/-- R82: the command of a command port, for every port; R95: what is ignored. And the words `{valid, op}` of
the table, with the operand ports 0. -/
def Obligations.CommandPortDecodes : Prop :=
  (∀ (op : Bool) (port pin tmr : Nat),
    decode (.command { valid := false, op, port, pin, tmr }) = .ok .nocmd ∧
    decode (.command { valid := true, op := false, port, pin, tmr }) = .ok (.init port pin tmr) ∧
    decode (.command { valid := true, op := true, port, pin, tmr }) = .ok .read) ∧
  decodeWord .cmd 0b00 = .ok .nocmd ∧ decodeWord .cmd 0b01 = .ok .nocmd ∧
  decodeWord .cmd 0b10 = .ok (.init 0 0 0) ∧ decodeWord .cmd 0b11 = .ok .read

/-- R83, R84: the twelve state codes, and the four that select nothing. -/
def Obligations.StateCodesDecode : Prop :=
  decode (.stateCode 0b0000#4) = .ok .idle ∧
  decode (.stateCode 0b0001#4) = .ok .startLow ∧
  decode (.stateCode 0b0010#4) = .ok .startRel ∧
  decode (.stateCode 0b0011#4) = .ok .ackLow1 ∧
  decode (.stateCode 0b0100#4) = .ok .ackHigh ∧
  decode (.stateCode 0b0101#4) = .ok .ackLow2 ∧
  decode (.stateCode 0b0110#4) = .ok .bitRise ∧
  decode (.stateCode 0b0111#4) = .ok .bitHold ∧
  decode (.stateCode 0b1000#4) = .ok .bitFall ∧
  decode (.stateCode 0b1001#4) = .ok .decode ∧
  decode (.stateCode 0b1010#4) = .ok .done ∧
  decode (.stateCode 0b1011#4) = .ok .timedout ∧
  ∀ c : BitVec 4, 12 ≤ c.toNat → decode (.stateCode c) = .error .reservedStateCode

/-- Decoding the encoder's word gives the instruction back, with every handle at every value. -/
def Obligations.DecodeEncodeAgree : Prop := ∀ i : Instr, decode (encode i) = .ok i

/-- A canonical word that decodes is the encoder's word of what it decodes to. The choice of 0 for ignored
bits is the model's (log 12). -/
def Obligations.CanonicalWordsReencode : Prop :=
  ∀ (e : Encoded) (i : Instr), e.wf = true → decode e = .ok i → encode i = e

/-! ### The tick (spec/00_scope.md R10, R15; spec/70_reset_and_hazards.md R220) -/

/-- R220: in a tick with `rst` = 1, whatever the state and the other inputs, every register takes its reset
value; the state at tick 0 is the same, for every block. The tick number and the inputs are the model's own fields
(log 1), and so are the parameters of the block, which a reset keeps; State.reset is the block of R8's defaults
(log 5). -/
def Obligations.ResetTickGivesResetState : Prop :=
  (∀ s : State, s.input.rst = true →
    step s = .next
      { params := s.params,
        inited := false, cfgPort := 0, cfgPin := 0, cfgTmr := 0, tmrRun := false, cnt := 0, dly := 0,
        st := .idle, bitIdx := 0, bitBuf := Vector.replicate 40 false, dir := .input, out := true,
        humInt := 0, humFrac := 0, tmpInt := 0, tmpFrac := 0, humX10 := 0, tmpX10 := 0,
        failed := false, rvalid := false, tick := s.tick + 1, inputs := s.inputs.tail }) ∧
  (∀ p : Config.Params, State.resetWith p =
    { params := p, inited := false, cfgPort := 0, cfgPin := 0, cfgTmr := 0, tmrRun := false, cnt := 0, dly := 0,
      st := .idle, bitIdx := 0, bitBuf := Vector.replicate 40 false, dir := .input, out := true,
      humInt := 0, humFrac := 0, tmpInt := 0, tmpFrac := 0, humX10 := 0, tmpX10 := 0,
      failed := false, rvalid := false, tick := 0, inputs := [] }) ∧
  State.reset = State.resetWith
    { startLowTicks := 18000, cntW := 16, dlyW := 15, handleW := 8, tickNs := 1000 }

/-- A step runs the decoded instruction, read from ST: where the code in ST decodes to `i`, the tick is
`exec i`. -/
def Obligations.StepRunsStateInstr : Prop :=
  ∀ (s : State) (i : Instr), s.input.rst = false → decode (.stateCode s.st.code) = .ok i → step s = exec i s

/-- A step runs the decoded instruction, read from the command port: where the command port decodes to `i`, the
tick is `exec i`. R15 gives a tick one effect; that a command row's `exec` is that whole tick is the model's reading
of the opcode table (log 10, DEDUCED), and this says that it agrees with the reading from ST. -/
def Obligations.StepRunsCommandInstr : Prop :=
  ∀ (s : State) (i : Instr), s.input.rst = false → decode (.command s.input.cmd) = .ok i → step s = exec i s

/-- A table word that decodes is what the next step runs, once `withFetchWord` has placed it (the model's own
placement, log 6, with the format told by the width, log 7). -/
def Obligations.PlacedWordRuns : Prop :=
  ∀ (s : State) (nbits w : Nat) (i : Instr), decodeTableWord nbits w = some i →
    step (s.withFetchWord nbits w) = exec i (s.withFetchWord nbits w)

/-! ### The commands (spec/40_commands.md) -/

/-- R110: IDLE with no command keeps every register; CNT follows R204. Read from ST or from the command port. -/
def Obligations.IdleHolds : Prop :=
  ∀ s : State, s.st = .idle → s.input.cmd.valid = false → ∀ i, i = .idle ∨ i = .nocmd →
    exec i s = .next { s with
      cnt := if s.tmrRun then (s.cnt + 1) % 2 ^ s.params.cntW else s.cnt,
      tick := s.tick + 1, inputs := s.inputs.tail }

/-- NOCMD outside IDLE: "the micro-operation selected by ST runs alone" (opcode_table.json). It answers a next
state wherever BITIDX addresses a cell, and that state is the micro-operation's. -/
def Obligations.NocmdRunsSelected : Prop :=
  ∀ s : State, s.input.cmd.valid = false → s.bitIdx.toNat ≤ 39 →
    ∃ t, exec .nocmd s = .next t ∧ exec s.st.instr s = .next t ∧
      t.inited = s.inited ∧ t.tmrRun = s.tmrRun ∧
      t.cfgPort = s.cfgPort ∧ t.cfgPin = s.cfgPin ∧ t.cfgTmr = s.cfgTmr

/-- R111: INIT in IDLE with INITED = 0, with its frame; the operands are handles of HANDLE_W bits. -/
def Obligations.InitAccepted : Prop :=
  ∀ (s : State) (port pin tmr : Nat), (Instr.init port pin tmr).wf s.params = true →
    s.st = .idle → s.inited = false →
    exec (.init port pin tmr) s = .next { s with
      cfgPort := port, cfgPin := pin, cfgTmr := tmr, inited := true, tmrRun := true,
      cnt := if s.tmrRun then (s.cnt + 1) % 2 ^ s.params.cntW else s.cnt,
      tick := s.tick + 1, inputs := s.inputs.tail }

/-- R112: READ in IDLE with INITED = 1, with its frame; FAILED and the six data registers keep the values of
the read before. -/
def Obligations.ReadAccepted : Prop :=
  ∀ s : State, s.st = .idle → s.inited = true →
    exec .read s = .next { s with
      dir := .output, out := false, dly := 0, bitIdx := 0, bitBuf := Vector.replicate 40 false,
      rvalid := false, st := .startLow,
      cnt := if s.tmrRun then (s.cnt + 1) % 2 ^ s.params.cntW else s.cnt,
      tick := s.tick + 1, inputs := s.inputs.tail }

/-- R113: a command while busy is refused, by every micro-operation other than IDLE (the single ticks of DONE
and TIMEDOUT among them) and by the command's own meaning. -/
def Obligations.CommandWhileBusyRefused : Prop :=
  ∀ s : State, s.st ≠ .idle → s.input.cmd.valid = true →
    (s.input.rst = false → step s = .refused .commandWhileBusy) ∧
    exec s.st.instr s = .refused .commandWhileBusy ∧
    exec .read s = .refused .commandWhileBusy ∧
    ∀ port pin tmr, exec (.init port pin tmr) s = .refused .commandWhileBusy

/-- R114: READ before INIT is refused. -/
def Obligations.ReadBeforeInitRefused : Prop :=
  ∀ s : State, s.st = .idle → s.inited = false →
    exec .read s = .refused .readBeforeInit ∧
    (s.input.rst = false → decodeCommand s.input.cmd = .read → step s = .refused .readBeforeInit)

/-- R115: a second INIT is refused. -/
def Obligations.RepeatedInitRefused : Prop :=
  ∀ (s : State) (port pin tmr : Nat), s.st = .idle → s.inited = true →
    exec (.init port pin tmr) s = .refused .repeatedInit ∧
    (s.input.rst = false → decodeCommand s.input.cmd = .init port pin tmr → step s = .refused .repeatedInit)

/-! ### The micro-operations (spec/41, 42, 43, 60) -/

/-- R130: START_LOW, with its frame: the last tick drives high and goes to START_REL, every other counts. DLY + 1 is
in DLY_W bits; where DLY is in R25's range it does not overflow (R179). -/
def Obligations.StartLowCounts : Prop :=
  ∀ s : State, s.st = .startLow → s.input.cmd.valid = false →
    (s.dly = s.params.startLowTicks - 1 →
      exec .startLow s = .next { s with
        out := true, st := .startRel,
        cnt := if s.tmrRun then (s.cnt + 1) % 2 ^ s.params.cntW else s.cnt,
        tick := s.tick + 1, inputs := s.inputs.tail }) ∧
    (s.dly ≠ s.params.startLowTicks - 1 →
      exec .startLow s = .next { s with
        dly := (s.dly + 1) % 2 ^ s.params.dlyW,
        cnt := if s.tmrRun then (s.cnt + 1) % 2 ^ s.params.cntW else s.cnt,
        tick := s.tick + 1, inputs := s.inputs.tail })

/-- R131: START_REL, with its frame. -/
def Obligations.StartRelReleases : Prop :=
  ∀ s : State, s.input.cmd.valid = false →
    exec .startRel s = .next { s with
      dir := .input, cnt := 0, st := .ackLow1, tick := s.tick + 1, inputs := s.inputs.tail }

/-- R134: ACK_LOW1 is `WAIT(0, ACK_HIGH)`. -/
def Obligations.AckLow1WaitsLow : Prop := WaitMeaning .ackLow1 .ackLow1 false (fun s => { s with st := .ackHigh })

/-- R135: ACK_HIGH is `WAIT(1, ACK_LOW2)`. -/
def Obligations.AckHighWaitsHigh : Prop := WaitMeaning .ackHigh .ackHigh true (fun s => { s with st := .ackLow2 })

/-- R136: ACK_LOW2 is `WAIT(0, BIT_RISE)`. -/
def Obligations.AckLow2WaitsLow : Prop := WaitMeaning .ackLow2 .ackLow2 false (fun s => { s with st := .bitRise })

/-- R151: BIT_RISE is `WAIT(1, BIT_HOLD)`. -/
def Obligations.BitRiseWaitsHigh : Prop := WaitMeaning .bitRise .bitRise true (fun s => { s with st := .bitHold })

/-- R152: the delay of BIT_HOLD, with its frame. -/
def Obligations.BitHoldDelays : Prop :=
  ∀ s : State, s.st = .bitHold → s.input.cmd.valid = false → s.cnt < 40 →
    exec .bitHold s = .next { s with
      cnt := if s.tmrRun then (s.cnt + 1) % 2 ^ s.params.cntW else s.cnt,
      tick := s.tick + 1, inputs := s.inputs.tail }

/-- R153: the one sample of a slot, with its frame: the level of this tick goes to cell BITIDX and to no other. -/
def Obligations.BitHoldSamples : Prop :=
  ∀ s : State, s.input.cmd.valid = false → 40 ≤ s.cnt → s.bitIdx.toNat ≤ 39 →
    ∃ b : Slots,
      exec .bitHold s = .next { s with
        bitBuf := b, cnt := 0, st := .bitFall, tick := s.tick + 1, inputs := s.inputs.tail } ∧
      ∀ i : Fin 40, slotRead b i = if i.val = s.bitIdx.toNat then s.input.line else slotRead s.bitBuf i

/-- The sample faults where BITIDX addresses no cell. The fault is the model's choice (log 4): R61 says such an
address cannot be formed, and no state that meets `Inv` has one. -/
def Obligations.BitHoldFaultsOutsideSlots : Prop :=
  ∀ s : State, s.input.cmd.valid = false → 40 ≤ s.cnt → 40 ≤ s.bitIdx.toNat →
    exec .bitHold s = .fault .slotOutOfRange

/-- R154, R155: BIT_FALL is a wait for low whose success ends the slot. -/
def Obligations.BitFallEndsSlot : Prop :=
  WaitMeaning .bitFall .bitFall false (fun s =>
    if s.bitIdx.toNat = 39 then { s with st := .decode } else { s with bitIdx := s.bitIdx + 1, st := .bitRise })

/-- R170: DECODE, with its frame; the fields are R171's, the tenths R172's. -/
def Obligations.DecodeWritesResult : Prop :=
  ∀ s : State, s.input.cmd.valid = false →
    exec .decode s = .next { s with
      humInt := fieldValue s.bitBuf .humInt, humFrac := fieldValue s.bitBuf .humFrac,
      tmpInt := fieldValue s.bitBuf .tmpInt, tmpFrac := fieldValue s.bitBuf .tmpFrac,
      humX10 := 10 * (fieldValue s.bitBuf .humInt).setWidth 12 + (fieldValue s.bitBuf .humFrac).setWidth 12,
      tmpX10 := 10 * (fieldValue s.bitBuf .tmpInt).setWidth 12 + (fieldValue s.bitBuf .tmpFrac).setWidth 12,
      failed := false, rvalid := true, st := .done,
      cnt := if s.tmrRun then (s.cnt + 1) % 2 ^ s.params.cntW else s.cnt,
      tick := s.tick + 1, inputs := s.inputs.tail }

/-- R178, R195: DONE and TIMEDOUT last one tick and write no register but ST; CNT follows R204. -/
def Obligations.EndingsReturnToIdle : Prop :=
  ∀ s : State, s.input.cmd.valid = false → ∀ i, i = .done ∨ i = .timedout →
    exec i s = .next { s with
      st := .idle,
      cnt := if s.tmrRun then (s.cnt + 1) % 2 ^ s.params.cntW else s.cnt,
      tick := s.tick + 1, inputs := s.inputs.tail }

/-! ### Slots, fields and readings (spec/20_memory.md, spec/43_decode.md) -/

/-- R62: `SlotWrite(i, b)` sets cell i and leaves every other cell. -/
def Obligations.SlotWriteSetsOneCell : Prop :=
  ∀ (b : Slots) (i : SlotIndex) (v : Level), i.toNat ≤ 39 →
    ∃ b', slotWrite b i v = some b' ∧
      ∀ j : Fin 40, slotRead b' j = if j.val = i.toNat then v else slotRead b j

/-- R64: FRAME[39 - i] is cell i. -/
def Obligations.FrameIsMostSignificantFirst : Prop :=
  ∀ (b : Slots) (i : Fin 40), (frame b).getLsbD (39 - i.val) = slotRead b i

/-- R91: a field at slot s is the sum over k of `SlotRead(s + k) * 2^(7 - k)`, at the slots 0, 8, 16, 24 (R90). -/
def Obligations.FieldIsBigEndianSum : Prop :=
  ∀ (b : Slots) (f : DataField),
    (fieldValue b f).toNat = ∑ k : Fin 8, (slotRead b (f.cell k)).toNat * 2 ^ (7 - k.val) ∧
    ∀ k : Fin 8, (f.cell k).val =
      (match f with | .humInt => 0 | .humFrac => 8 | .tmpInt => 16 | .tmpFrac => 24) + k.val

/-- R172, R92, R173: after DECODE each reading is exactly its integer field plus its fraction field divided by
ten; the tenths do not overflow and are at most 2805. -/
def Obligations.ReadingsAreExactTenths : Prop :=
  ∀ s t : State, exec .decode s = .next t →
    t.humX10.toNat = 10 * t.humInt.toNat + t.humFrac.toNat ∧ t.humX10.toNat ≤ 2805 ∧
    t.tmpX10.toNat = 10 * t.tmpInt.toNat + t.tmpFrac.toNat ∧ t.tmpX10.toNat ≤ 2805 ∧
    t.humidity = (t.humInt.toNat : Rat) + (t.humFrac.toNat : Rat) / 10 ∧
    t.temperature = (t.tmpInt.toNat : Rat) + (t.tmpFrac.toNat : Rat) / 10

/-- R35: every output is a function of the state; `busy` and `done` as R35 says; and a tick with `done` = 1 is
followed by one with `done` = 0, so that `done` is high for one tick per read (R35, R116). -/
def Obligations.OutputsShowState : Prop :=
  ∀ s : State,
    (s.outputs.lineOe = true ↔ s.dir = .output) ∧ s.outputs.lineOut = s.out ∧
    (s.outputs.busy = true ↔ s.st ≠ .idle) ∧ (s.outputs.done = true ↔ s.st = .done ∨ s.st = .timedout) ∧
    s.outputs.inited = s.inited ∧ s.outputs.rvalid = s.rvalid ∧ s.outputs.failed = s.failed ∧
    s.outputs.humInt = s.humInt ∧ s.outputs.humFrac = s.humFrac ∧
    s.outputs.tmpInt = s.tmpInt ∧ s.outputs.tmpFrac = s.tmpFrac ∧
    s.outputs.humX10 = s.humX10 ∧ s.outputs.tmpX10 = s.tmpX10 ∧
    ∀ t, step s = .next t → s.outputs.done = true → t.outputs.done = false ∧ t.outputs.busy = false

/-! ### The whole machine: what only some ticks may do -/

/-- R204: the counter update of every tick with `rst` = 0. -/
def Obligations.CounterFollowsTimerRule : Prop :=
  ∀ s t : State, s.input.rst = false → step s = .next t →
    t.cnt = if resetsTimer s then 0 else if s.tmrRun then (s.cnt + 1) % 2 ^ s.params.cntW else s.cnt

/-- R191, R132: a tick enters TIMEDOUT exactly when a wait polls the wrong level with CNT above 200, and then what
it changes is R193's; from a state that meets `Inv`, DIR is Input there and stays so. -/
def Obligations.TimeoutOnlyFromWaits : Prop :=
  ∀ s : State, s.input.rst = false → s.input.cmd.valid = false →
    ((∃ t, step s = .next t ∧ t.st = .timedout) ↔
      isWait s.st = true ∧ waitedLevel s.st ≠ some s.input.line ∧ 200 < s.cnt) ∧
    ∀ t, step s = .next t → t.st = .timedout →
      TimeoutEntered s t ∧ (Inv s → s.dir = .input ∧ t.dir = .input)

/-- R38: every tick with `rst` = 0 follows an edge of the complete edge list or stays where R38 lets it stay. -/
def Obligations.StepFollowsEdgeList : Prop :=
  ∀ s t : State, s.input.rst = false → step s = .next t → edge s.st t.st = true

/-- R38: IDLE is left by READ only, the slot loop is left to DECODE only at BITIDX = 39, and BITIDX changes only
when READ is accepted (to 0) or a slot below 39 ends (by one). -/
def Obligations.SlotLoopRunsInOrder : Prop :=
  ∀ s t : State, s.input.rst = false → step s = .next t →
    (s.st = .idle → t.st ≠ .idle → decodeCommand s.input.cmd = .read ∧ s.inited = true) ∧
    (t.st = .decode → s.bitIdx = 39#6 ∧ t.bitIdx = 39#6) ∧
    (t.bitIdx ≠ s.bitIdx →
      (s.st = .idle ∧ t.st = .startLow ∧ t.bitIdx = 0) ∨
      (s.st = .bitFall ∧ t.st = .bitRise ∧ t.bitIdx = s.bitIdx + 1))

/-- R21, R22, R23: INITED, TMR_RUN and the handles are written by INIT only; a handle is the HANDLE_W bits of its
port (of an operand wider than that, which is none of the block's, the low bits: the model's choice, log 5). -/
def Obligations.OnlyInitConfigures : Prop :=
  ∀ s t : State, s.input.rst = false → step s = .next t →
    (t.inited = s.inited ∧ t.tmrRun = s.tmrRun ∧
      t.cfgPort = s.cfgPort ∧ t.cfgPin = s.cfgPin ∧ t.cfgTmr = s.cfgTmr) ∨
    (s.st = .idle ∧ s.inited = false ∧ t.inited = true ∧ t.tmrRun = true ∧
      ∃ port pin tmr, decodeCommand s.input.cmd = .init port pin tmr ∧
        t.cfgPort = port % 2 ^ s.params.handleW ∧ t.cfgPin = pin % 2 ^ s.params.handleW ∧
        t.cfgTmr = tmr % 2 ^ s.params.handleW)

/-- R117: while RVALID is 1, no tick writes FAILED or a data register; and in any tick only DECODE and a Timeout
write them. -/
def Obligations.ResultIsStable : Prop :=
  ∀ s t : State, s.input.rst = false → step s = .next t →
    (Inv s → s.rvalid = true →
      t.failed = s.failed ∧ t.humInt = s.humInt ∧ t.humFrac = s.humFrac ∧ t.tmpInt = s.tmpInt ∧
      t.tmpFrac = s.tmpFrac ∧ t.humX10 = s.humX10 ∧ t.tmpX10 = s.tmpX10) ∧
    (s.st ≠ .decode → t.st ≠ .timedout →
      t.failed = s.failed ∧ t.humInt = s.humInt ∧ t.humFrac = s.humFrac ∧ t.tmpInt = s.tmpInt ∧
      t.tmpFrac = s.tmpFrac ∧ t.humX10 = s.humX10 ∧ t.tmpX10 = s.tmpX10)

/-- R62: the slot space is written only by READ, which clears it, and by BIT_HOLD, in one cell. -/
def Obligations.SlotsWrittenOnlyByReadAndSample : Prop :=
  ∀ s t : State, s.input.rst = false → step s = .next t →
    t.bitBuf = s.bitBuf ∨
    (s.st = .idle ∧ t.st = .startLow ∧ ∀ i, slotRead t.bitBuf i = false) ∨
    (s.st = .bitHold ∧ t.st = .bitFall ∧
      ∀ i : Fin 40, i.val ≠ s.bitIdx.toNat → slotRead t.bitBuf i = slotRead s.bitBuf i)

/-- R29, R30: DIR and OUT are written only by READ, the end of START_LOW and START_REL. -/
def Obligations.PinWrittenOnlyByStartSignal : Prop :=
  ∀ s t : State, s.input.rst = false → step s = .next t →
    (t.dir = s.dir ∧ t.out = s.out) ∨
    (s.st = .idle ∧ t.st = .startLow ∧ t.dir = .output ∧ t.out = false) ∨
    (s.st = .startLow ∧ t.st = .startRel ∧ t.dir = s.dir ∧ t.out = true) ∨
    (s.st = .startRel ∧ t.st = .ackLow1 ∧ t.dir = .input ∧ t.out = s.out)

/-- R11, R192: from every state that meets `Inv`, a tick answers a next state exactly when the host keeps its
duties (R118), and otherwise a refusal of R192's list; it never faults. -/
def Obligations.OnlyMisuseIsRefused : Prop :=
  ∀ s : State, Inv s →
    (hostObeys s = true ↔ ∃ t, step s = .next t) ∧
    (hostObeys s = false → step s = .refused
      (if s.st ≠ .idle then .commandWhileBusy else if s.inited then .repeatedInit else .readBeforeInit))

/-! ### Invariants (spec/10_state.md R42) -/

/-- R42 holds in the reset state, and in that of every other legal block (R8). -/
def Obligations.ResetStateMeetsInv : Prop :=
  Inv State.reset ∧ SlotInv State.reset ∧
  ∀ p : Config.Params, p.legal = true → Inv (State.resetWith p) ∧ SlotInv (State.resetWith p)

/-- R42: every tick keeps the invariants. -/
def Obligations.StepKeepsInv : Prop := ∀ s t : State, Inv s → step s = .next t → Inv t

/-- R62, R112, R159: during a read BITBUF holds zeros in every cell not yet sampled, and DECODE starts with all
40 slots done; every tick keeps it. -/
def Obligations.StepKeepsSlotInv : Prop := ∀ s t : State, Inv s → SlotInv s → step s = .next t → SlotInv t

/-! ### What has no effect -/

/-- R22: the handles select nothing: two states that differ only in them have ticks that differ only in them, the
data a Timeout draws set aside (R194). -/
def Obligations.HandlesSelectNothing : Prop :=
  ∀ (s : State) (port pin tmr : Nat),
    outcomesAgree (fun t t' => ∃ p n m, t'.undrawn = { t.undrawn with cfgPort := p, cfgPin := n, cfgTmr := m })
      (step s) (step { s with cfgPort := port, cfgPin := pin, cfgTmr := tmr })

/-- R93, R63: slots 32 to 39 change no output: two states that differ only in them have the same outputs, and
ticks that differ only in them, the data a Timeout draws set aside (R194). -/
def Obligations.TrailerChangesNothing : Prop :=
  ∀ (s : State) (b : Slots), (∀ i : Fin 40, i.val < 32 → slotRead b i = slotRead s.bitBuf i) →
    State.outputs { s with bitBuf := b } = s.outputs ∧
    outcomesAgree (fun t t' => ∃ c : Slots, t'.undrawn = { t.undrawn with bitBuf := c } ∧
        ∀ i : Fin 40, i.val < 32 → slotRead c i = slotRead t.bitBuf i)
      (step s) (step { s with bitBuf := b })

/-- R24, U14: where no wait and no delay runs, CNT is on no port and decides nothing: two states that differ only
in it have the same outputs, and ticks that differ only in it. -/
def Obligations.FreeRunningCounterUnobservable : Prop :=
  ∀ (s : State) (c : Nat), isWait s.st = false → s.st ≠ .bitHold →
    State.outputs { s with cnt := c } = s.outputs ∧
    outcomesAgree (fun t t' => ∃ d, t' = { t with cnt := d }) (step s) (step { s with cnt := c })

/-- R67, R139: in a tick that executes no `LineRead()` the level of the line is ignored. -/
def Obligations.LineIgnoredWhereNotRead : Prop :=
  ∀ (s : State) (i : Input) (rest : List Input) (v : Level), s.inputs = i :: rest → readsLine s = false →
    step { s with inputs := { i with line := v } :: rest } = step s

/-- R95: `cmd_op` and the operand ports are ignored where no command is presented, the operand ports by READ, and
everything on the command port in a reset tick (R200); the data a Timeout draws set aside (R194). -/
def Obligations.IgnoredPortBitsIgnored : Prop :=
  ∀ (s : State) (i : Input) (rest : List Input) (p : CommandPort), s.inputs = i :: rest →
    (i.rst = true ∨ (i.cmd.valid = false ∧ p.valid = false) ∨
      (i.cmd.valid = true ∧ i.cmd.op = true ∧ p.valid = true ∧ p.op = true)) →
    outcomesAgree (fun t t' => t'.undrawn = t.undrawn) (step s) (step { s with inputs := { i with cmd := p } :: rest })

/-! ### Runs -/

/-- R130, R231: the line is driven low for exactly START_LOW_TICKS ticks, then high for START_REL, for every legal
START_LOW_TICKS (R8). -/
def Obligations.StartPulseHasItsLength : Prop :=
  ∀ s : State, Inv s → s.st = .startLow → s.dly = 0 → s.quietFor s.params.startLowTicks →
    (∀ k < s.params.startLowTicks, ∃ t, run k s = .next t ∧
      t.st = .startLow ∧ t.dly = k ∧ t.dir = .output ∧ t.out = false) ∧
    ∃ t, run s.params.startLowTicks s = .next t ∧ t.st = .startRel ∧ t.dir = .output ∧ t.out = true

/-- R137: a wait entered with CNT = 0 ends in the first tick e + k, k at most 201, with the wanted level, its
successor running in e + k + 1; with no such tick, TIMEDOUT runs in e + 202. -/
def Obligations.WaitPollsAtMost202Ticks : Prop :=
  ∀ (s : State) (v : Level), s.params.legal = true → waitedLevel s.st = some v → s.tmrRun = true → s.cnt = 0 →
    (∀ k ≤ 201, s.quietFor (k + 1) → (∀ j < k, s.lineAt j ≠ v) → s.lineAt k = v →
      (∀ j ≤ k, ∃ t, run j s = .next t ∧ t.st = s.st ∧ t.cnt = j) ∧
      ∃ t, run (k + 1) s = .next t ∧ t.st = waitSuccessor s ∧ t.cnt = 0) ∧
    (s.quietFor 202 → (∀ j < 202, s.lineAt j ≠ v) →
      (∀ j < 202, ∃ t, run j s = .next t ∧ t.st = s.st) ∧
      ∃ t, run 202 s = .next t ∧ t.st = .timedout ∧ t.cnt = 202 ∧ t.failed = true ∧ t.rvalid = true)

/-- R156: if BIT_RISE's successful poll is in this tick r, the bit stored is `line_in(r + 41)`, whatever the line
does in between, and BIT_FALL first polls in r + 42. -/
def Obligations.SampleIs41TicksAfterRise : Prop :=
  ∀ s : State, s.params.legal = true → s.st = .bitRise → s.tmrRun = true → s.bitIdx.toNat ≤ 39 → s.quietFor 42 →
    s.lineAt 0 = true →
    ∃ t, run 42 s = .next t ∧ t.st = .bitFall ∧ t.cnt = 0 ∧ t.bitIdx = s.bitIdx ∧
      ∀ i : Fin 40, slotRead t.bitBuf i = if i.val = s.bitIdx.toNat then s.lineAt 41 else slotRead s.bitBuf i

/-- R150, R157, R170: forty clean pulses, each preceded by a low time of 43 to 200 ticks, are captured as forty
bits, bit i being 1 exactly when pulse i lasts at least 42 ticks, and decoded into the result. The widths near 42
are the spec's tick model's (`90_conflicts.md` C9). -/
def Obligations.FortyPulsesAreDecoded : Prop :=
  ∀ (s : State) (pulses : Vector (Nat × Nat) 40) (rest : List Input),
    s.params.legal = true → s.st = .bitRise → s.bitIdx = 0 → s.cnt = 0 → s.tmrRun = true →
    (∀ i : Fin 40, 43 ≤ pulses[i].1 ∧ pulses[i].1 ≤ 200 ∧ 1 ≤ pulses[i].2 ∧ pulses[i].2 ≤ 243) →
    s.inputs = pulses.toList.flatMap (fun p =>
        List.replicate p.1 (Input.level false) ++ List.replicate p.2 (Input.level true)) ++
      List.replicate 43 (Input.level false) ++ rest →
    ∃ n t, run n s = .next t ∧ t.st = .done ∧ t.failed = false ∧ t.rvalid = true ∧
      (∀ i : Fin 40, slotRead t.bitBuf i = decide (42 ≤ pulses[i].2)) ∧
      t.humInt = fieldValue t.bitBuf .humInt ∧ t.humFrac = fieldValue t.bitBuf .humFrac ∧
      t.tmpInt = fieldValue t.bitBuf .tmpInt ∧ t.tmpFrac = fieldValue t.bitBuf .tmpFrac ∧
      t.humX10.toNat = 10 * t.humInt.toNat + t.humFrac.toNat ∧
      t.tmpX10.toNat = 10 * t.tmpInt.toNat + t.tmpFrac.toNat

/-- R232: every read terminates, for every line stream: with READ accepted in tick 0 and no command or reset while
it runs, the block is idle again at a tick T inside R232's bounds, and not before; for every legal
START_LOW_TICKS (R8). -/
def Obligations.EveryReadTerminates : Prop :=
  ∀ s : State, s.params.legal = true → s.st = .idle → s.inited = true → s.tmrRun = true → s.input.rst = false →
    decodeCommand s.input.cmd = .read →
    (∀ k, 1 ≤ k → k < s.params.startLowTicks + 18410 → (s.inputAt k).quiet = true) →
    ∃ T t, run T s = .next t ∧ t.st = .idle ∧ t.rvalid = true ∧
      (∀ k, 1 ≤ k → k < T → ∃ u, run k s = .next u ∧ u.st ≠ .idle) ∧
      (t.failed = false → s.params.startLowTicks + 1727 ≤ T ∧ T ≤ s.params.startLowTicks + 18410) ∧
      (t.failed = true → s.params.startLowTicks + 205 ≤ T ∧ T ≤ s.params.startLowTicks + 18409)

/-- R197, R112: a read is not influenced by what came before: two idle, initialised states of one block in the same
tick with the same inputs, whatever their other registers hold, run from an accepted READ on through the same states,
but for CNT, for result registers that RVALID = 0 marks stale, and for the data of a failed read (R194). -/
def Obligations.ReadIsIndependentOfHistory : Prop :=
  ∀ s s' : State, s.st = .idle → s'.st = .idle → s.inited = true → s'.inited = true →
    s.tmrRun = true → s'.tmrRun = true → s.params = s'.params → s.tick = s'.tick → s.inputs = s'.inputs →
    s.input.rst = false → decodeCommand s.input.cmd = .read → ∀ n ≥ 1,
    outcomesAgree (fun t t' =>
        t.st = t'.st ∧ t.bitIdx = t'.bitIdx ∧ t.bitBuf = t'.bitBuf ∧ t.dly = t'.dly ∧ t.dir = t'.dir ∧
        t.out = t'.out ∧ t.inited = t'.inited ∧ t.rvalid = t'.rvalid ∧
        (t.rvalid = true → t.failed = t'.failed ∧ (t.failed = false → t.outputs = t'.outputs)))
      (run n s) (run n s')

/-! ### One block and another, one history and another -/

/-- R37, R8: the parameters are constants: every tick, a reset among them, keeps them, and so keeps them legal. -/
def Obligations.StepKeepsParameters : Prop :=
  ∀ s t : State, step s = .next t → t.params = s.params

/-- R8, D6, D23, D29: two legal blocks that differ only in CNT_W, DLY_W, HANDLE_W and TICK_NS, in states that agree
but for the handles and a CNT that nothing reads, have the same outputs, and ticks that keep them so; the data a
Timeout draws set aside (R194). -/
def Obligations.WidthsChangeNothing : Prop :=
  ∀ s s' : State, Inv s → Inv s' → OtherWidths s s' →
    s'.outputs = s.outputs ∧
    outcomesAgree (fun t t' => Inv t ∧ Inv t' ∧ OtherWidths t.undrawn t'.undrawn) (step s) (step s')

/-- R197, R112, step by step: nothing an earlier read left behind influences a tick. States that agree but for it have
ticks that keep them so, whatever the inputs; and what R226 lets the host use is the same in both. -/
def Obligations.StepKeepsSameButHistory : Prop :=
  ∀ s s' : State, SameButHistory s s' →
    outcomesAgree SameButHistory (step s) (step s') ∧
    (s.rvalid = true → s.failed = false → s'.outputs = s.outputs)
end

