-- ==== Sys2Proof/Laws/Decode.lean ====
section
/-! SUPPORT. The small lemmas of the decoder and the encoder. -/

namespace Sys2Proof

@[simp] theorem decodeStateCode_code (x : SeqState) : decodeStateCode x.code = .ok x := by cases x <;> rfl

theorem decodeStateCode_ok {c : BitVec 4} {x : SeqState} (h : decodeStateCode c = .ok x) : x.code = c := by
  revert c; cases x <;> decide

theorem decodeStateCode_reserved {c : BitVec 4} (h : 12 ≤ c.toNat) :
    decodeStateCode c = .error .reservedStateCode := by
  revert c; decide

@[simp] theorem decodeCommand_absent_iff (p : CommandPort) : decodeCommand p = .absent ↔ p.valid = false := by
  obtain ⟨v, o, a, b, c⟩ := p; cases v <;> cases o <;> simp [decodeCommand]

theorem decodeCommand_of_not_valid {p : CommandPort} (h : p.valid = false) : decodeCommand p = .absent :=
  (decodeCommand_absent_iff p).2 h

@[simp] theorem decode_command (p : CommandPort) : decode (.command p) = .ok (decodeCommand p).instr := rfl

@[simp] theorem decode_stateCode_code (x : SeqState) : decode (.stateCode x.code) = .ok x.instr := by
  cases x <;> rfl

/-- What a command port of the block decodes to is well formed in it. -/
theorem wf_of_fits {p : Config.Params} {c : CommandPort} (h : c.fits p = true) : (decodeCommand c).instr.wf p = true := by
  obtain ⟨v, o, a, b, d⟩ := c
  cases v <;> cases o <;> simp_all [decodeCommand, Command.instr, Instr.wf, CommandPort.fits]

/-- The encoder's command port of a well-formed instruction fits the block. -/
theorem fits_of_wf {p : Config.Params} {i : Instr} {c : CommandPort} (h : i.wf p = true)
    (he : encode i = .command c) : c.fits p = true := by
  cases i <;> simp_all [encode, Instr.wf, SeqState.code] <;> subst he <;>
    simp_all [CommandPort.fits, CommandPort.absent, handleFits]

/-- A micro-operation's encoding is the code of its state. -/
@[simp] theorem encode_seqState_instr (x : SeqState) : encode x.instr = .stateCode x.code := by cases x <;> rfl

end Sys2Proof
end

