-- ==== Sys2Proof/Laws/State.lean ====
section
/-! SUPPORT. One lemma per field per update of the state, so that no proof unfolds a record update; the
constraints between the parameters (spec/00_scope.md R8, R9). -/

namespace Sys2Proof.Machine

/-- The parameters whose default R7 fixes are the sizes written in Word.lean. -/
theorem sizes_are_config : Byte = BitVec Config.fieldW ∧ Slots = Vector Level Config.nbits := ⟨rfl, rfl⟩

/-- What legal parameters are (R8). -/
theorem legal_iff {p : Config.Params} : p.legal = true ↔
    18000 ≤ p.startLowTicks ∧ p.startLowTicks ≤ 20000 ∧ 8 ≤ p.cntW ∧ p.startLowTicks ≤ 2 ^ p.dlyW ∧
    1 ≤ p.handleW ∧ 1 ≤ p.tickNs := decide_eq_true_iff

/-- START_LOW_TICKS is 18000 to 20000 (R8). -/
theorem legal_startLowTicks {p : Config.Params} (h : p.legal = true) :
    18000 ≤ p.startLowTicks ∧ p.startLowTicks ≤ 20000 := ⟨(legal_iff.1 h).1, (legal_iff.1 h).2.1⟩

/-- CNT has at least 8 bits (R8). -/
theorem legal_cntW {p : Config.Params} (h : p.legal = true) : 256 ≤ 2 ^ p.cntW :=
  Nat.pow_le_pow_right (n := 2) (i := 8) (by decide) (legal_iff.1 h).2.2.1

/-- DLY has room for START_LOW_TICKS values (R8, R9). -/
theorem legal_dlyW {p : Config.Params} (h : p.legal = true) : p.startLowTicks ≤ 2 ^ p.dlyW := (legal_iff.1 h).2.2.2.1

/-- The constraints that the rules rely on (R9) hold for every legal block. -/
theorem legal_constraints {p : Config.Params} (h : p.legal = true) :
    Config.timeoutTicks + 1 < 2 ^ p.cntW ∧ Config.sampleDelayTicks < 2 ^ p.cntW ∧
    p.startLowTicks ≤ 2 ^ p.dlyW ∧ Config.nfields * Config.fieldW ≤ Config.nbits ∧ Config.nbits - 1 < 2 ^ 6 := by
  have := legal_cntW h
  exact ⟨by simp only [Config.timeoutTicks]; omega, by simp only [Config.sampleDelayTicks]; omega, legal_dlyW h,
    by decide, by decide⟩

/-- R8 writes DLY_W's range with a logarithm, R9 with a power: they are one range. -/
theorem dlyW_range (p : Config.Params) : Nat.clog 2 p.startLowTicks ≤ p.dlyW ↔ p.startLowTicks ≤ 2 ^ p.dlyW :=
  Nat.clog_le_iff_le_pow (by decide)

/-- The defaults of R8 are legal. -/
theorem defaults_legal : Config.defaults.legal = true := by decide

/-! ### the default effect of a tick -/

@[simp] theorem State.advance_params (s : State) : (s.advance).params = s.params := rfl
@[simp] theorem State.advance_inited (s : State) : (s.advance).inited = s.inited := rfl
@[simp] theorem State.advance_cfgPort (s : State) : (s.advance).cfgPort = s.cfgPort := rfl
@[simp] theorem State.advance_cfgPin (s : State) : (s.advance).cfgPin = s.cfgPin := rfl
@[simp] theorem State.advance_cfgTmr (s : State) : (s.advance).cfgTmr = s.cfgTmr := rfl
@[simp] theorem State.advance_tmrRun (s : State) : (s.advance).tmrRun = s.tmrRun := rfl
@[simp] theorem State.advance_cnt (s : State) : (s.advance).cnt = countedUp s := rfl
@[simp] theorem State.advance_dly (s : State) : (s.advance).dly = s.dly := rfl
@[simp] theorem State.advance_st (s : State) : (s.advance).st = s.st := rfl
@[simp] theorem State.advance_bitIdx (s : State) : (s.advance).bitIdx = s.bitIdx := rfl
@[simp] theorem State.advance_bitBuf (s : State) : (s.advance).bitBuf = s.bitBuf := rfl
@[simp] theorem State.advance_dir (s : State) : (s.advance).dir = s.dir := rfl
@[simp] theorem State.advance_out (s : State) : (s.advance).out = s.out := rfl
@[simp] theorem State.advance_humInt (s : State) : (s.advance).humInt = s.humInt := rfl
@[simp] theorem State.advance_humFrac (s : State) : (s.advance).humFrac = s.humFrac := rfl
@[simp] theorem State.advance_tmpInt (s : State) : (s.advance).tmpInt = s.tmpInt := rfl
@[simp] theorem State.advance_tmpFrac (s : State) : (s.advance).tmpFrac = s.tmpFrac := rfl
@[simp] theorem State.advance_humX10 (s : State) : (s.advance).humX10 = s.humX10 := rfl
@[simp] theorem State.advance_tmpX10 (s : State) : (s.advance).tmpX10 = s.tmpX10 := rfl
@[simp] theorem State.advance_failed (s : State) : (s.advance).failed = s.failed := rfl
@[simp] theorem State.advance_rvalid (s : State) : (s.advance).rvalid = s.rvalid := rfl
@[simp] theorem State.advance_tick (s : State) : (s.advance).tick = s.tick + 1 := rfl
@[simp] theorem State.advance_inputs (s : State) : (s.advance).inputs = s.inputs.tail := rfl

/-! ### `ST' <- x` -/

@[simp] theorem State.goto_params (s : State) (x : SeqState) : (s.goto x).params = s.params := rfl
@[simp] theorem State.goto_inited (s : State) (x : SeqState) : (s.goto x).inited = s.inited := rfl
@[simp] theorem State.goto_cfgPort (s : State) (x : SeqState) : (s.goto x).cfgPort = s.cfgPort := rfl
@[simp] theorem State.goto_cfgPin (s : State) (x : SeqState) : (s.goto x).cfgPin = s.cfgPin := rfl
@[simp] theorem State.goto_cfgTmr (s : State) (x : SeqState) : (s.goto x).cfgTmr = s.cfgTmr := rfl
@[simp] theorem State.goto_tmrRun (s : State) (x : SeqState) : (s.goto x).tmrRun = s.tmrRun := rfl
@[simp] theorem State.goto_cnt (s : State) (x : SeqState) : (s.goto x).cnt = s.cnt := rfl
@[simp] theorem State.goto_dly (s : State) (x : SeqState) : (s.goto x).dly = s.dly := rfl
@[simp] theorem State.goto_st (s : State) (x : SeqState) : (s.goto x).st = x := rfl
@[simp] theorem State.goto_bitIdx (s : State) (x : SeqState) : (s.goto x).bitIdx = s.bitIdx := rfl
@[simp] theorem State.goto_bitBuf (s : State) (x : SeqState) : (s.goto x).bitBuf = s.bitBuf := rfl
@[simp] theorem State.goto_dir (s : State) (x : SeqState) : (s.goto x).dir = s.dir := rfl
@[simp] theorem State.goto_out (s : State) (x : SeqState) : (s.goto x).out = s.out := rfl
@[simp] theorem State.goto_humInt (s : State) (x : SeqState) : (s.goto x).humInt = s.humInt := rfl
@[simp] theorem State.goto_humFrac (s : State) (x : SeqState) : (s.goto x).humFrac = s.humFrac := rfl
@[simp] theorem State.goto_tmpInt (s : State) (x : SeqState) : (s.goto x).tmpInt = s.tmpInt := rfl
@[simp] theorem State.goto_tmpFrac (s : State) (x : SeqState) : (s.goto x).tmpFrac = s.tmpFrac := rfl
@[simp] theorem State.goto_humX10 (s : State) (x : SeqState) : (s.goto x).humX10 = s.humX10 := rfl
@[simp] theorem State.goto_tmpX10 (s : State) (x : SeqState) : (s.goto x).tmpX10 = s.tmpX10 := rfl
@[simp] theorem State.goto_failed (s : State) (x : SeqState) : (s.goto x).failed = s.failed := rfl
@[simp] theorem State.goto_rvalid (s : State) (x : SeqState) : (s.goto x).rvalid = s.rvalid := rfl
@[simp] theorem State.goto_tick (s : State) (x : SeqState) : (s.goto x).tick = s.tick := rfl
@[simp] theorem State.goto_inputs (s : State) (x : SeqState) : (s.goto x).inputs = s.inputs := rfl

/-! ### `TimerStart()` -/

@[simp] theorem State.timerStart_params (s : State) : (s.timerStart).params = s.params := rfl
@[simp] theorem State.timerStart_inited (s : State) : (s.timerStart).inited = s.inited := rfl
@[simp] theorem State.timerStart_cfgPort (s : State) : (s.timerStart).cfgPort = s.cfgPort := rfl
@[simp] theorem State.timerStart_cfgPin (s : State) : (s.timerStart).cfgPin = s.cfgPin := rfl
@[simp] theorem State.timerStart_cfgTmr (s : State) : (s.timerStart).cfgTmr = s.cfgTmr := rfl
@[simp] theorem State.timerStart_tmrRun (s : State) : (s.timerStart).tmrRun = true := rfl
@[simp] theorem State.timerStart_cnt (s : State) : (s.timerStart).cnt = s.cnt := rfl
@[simp] theorem State.timerStart_dly (s : State) : (s.timerStart).dly = s.dly := rfl
@[simp] theorem State.timerStart_st (s : State) : (s.timerStart).st = s.st := rfl
@[simp] theorem State.timerStart_bitIdx (s : State) : (s.timerStart).bitIdx = s.bitIdx := rfl
@[simp] theorem State.timerStart_bitBuf (s : State) : (s.timerStart).bitBuf = s.bitBuf := rfl
@[simp] theorem State.timerStart_dir (s : State) : (s.timerStart).dir = s.dir := rfl
@[simp] theorem State.timerStart_out (s : State) : (s.timerStart).out = s.out := rfl
@[simp] theorem State.timerStart_humInt (s : State) : (s.timerStart).humInt = s.humInt := rfl
@[simp] theorem State.timerStart_humFrac (s : State) : (s.timerStart).humFrac = s.humFrac := rfl
@[simp] theorem State.timerStart_tmpInt (s : State) : (s.timerStart).tmpInt = s.tmpInt := rfl
@[simp] theorem State.timerStart_tmpFrac (s : State) : (s.timerStart).tmpFrac = s.tmpFrac := rfl
@[simp] theorem State.timerStart_humX10 (s : State) : (s.timerStart).humX10 = s.humX10 := rfl
@[simp] theorem State.timerStart_tmpX10 (s : State) : (s.timerStart).tmpX10 = s.tmpX10 := rfl
@[simp] theorem State.timerStart_failed (s : State) : (s.timerStart).failed = s.failed := rfl
@[simp] theorem State.timerStart_rvalid (s : State) : (s.timerStart).rvalid = s.rvalid := rfl
@[simp] theorem State.timerStart_tick (s : State) : (s.timerStart).tick = s.tick := rfl
@[simp] theorem State.timerStart_inputs (s : State) : (s.timerStart).inputs = s.inputs := rfl

/-! ### `TimerReset()` -/

@[simp] theorem State.timerReset_params (s : State) : (s.timerReset).params = s.params := rfl
@[simp] theorem State.timerReset_inited (s : State) : (s.timerReset).inited = s.inited := rfl
@[simp] theorem State.timerReset_cfgPort (s : State) : (s.timerReset).cfgPort = s.cfgPort := rfl
@[simp] theorem State.timerReset_cfgPin (s : State) : (s.timerReset).cfgPin = s.cfgPin := rfl
@[simp] theorem State.timerReset_cfgTmr (s : State) : (s.timerReset).cfgTmr = s.cfgTmr := rfl
@[simp] theorem State.timerReset_tmrRun (s : State) : (s.timerReset).tmrRun = s.tmrRun := rfl
@[simp] theorem State.timerReset_cnt (s : State) : (s.timerReset).cnt = 0 := rfl
@[simp] theorem State.timerReset_dly (s : State) : (s.timerReset).dly = s.dly := rfl
@[simp] theorem State.timerReset_st (s : State) : (s.timerReset).st = s.st := rfl
@[simp] theorem State.timerReset_bitIdx (s : State) : (s.timerReset).bitIdx = s.bitIdx := rfl
@[simp] theorem State.timerReset_bitBuf (s : State) : (s.timerReset).bitBuf = s.bitBuf := rfl
@[simp] theorem State.timerReset_dir (s : State) : (s.timerReset).dir = s.dir := rfl
@[simp] theorem State.timerReset_out (s : State) : (s.timerReset).out = s.out := rfl
@[simp] theorem State.timerReset_humInt (s : State) : (s.timerReset).humInt = s.humInt := rfl
@[simp] theorem State.timerReset_humFrac (s : State) : (s.timerReset).humFrac = s.humFrac := rfl
@[simp] theorem State.timerReset_tmpInt (s : State) : (s.timerReset).tmpInt = s.tmpInt := rfl
@[simp] theorem State.timerReset_tmpFrac (s : State) : (s.timerReset).tmpFrac = s.tmpFrac := rfl
@[simp] theorem State.timerReset_humX10 (s : State) : (s.timerReset).humX10 = s.humX10 := rfl
@[simp] theorem State.timerReset_tmpX10 (s : State) : (s.timerReset).tmpX10 = s.tmpX10 := rfl
@[simp] theorem State.timerReset_failed (s : State) : (s.timerReset).failed = s.failed := rfl
@[simp] theorem State.timerReset_rvalid (s : State) : (s.timerReset).rvalid = s.rvalid := rfl
@[simp] theorem State.timerReset_tick (s : State) : (s.timerReset).tick = s.tick := rfl
@[simp] theorem State.timerReset_inputs (s : State) : (s.timerReset).inputs = s.inputs := rfl

/-! ### `LineDir(d)` -/

@[simp] theorem State.lineDir_params (s : State) (d : PinMode) : (s.lineDir d).params = s.params := rfl
@[simp] theorem State.lineDir_inited (s : State) (d : PinMode) : (s.lineDir d).inited = s.inited := rfl
@[simp] theorem State.lineDir_cfgPort (s : State) (d : PinMode) : (s.lineDir d).cfgPort = s.cfgPort := rfl
@[simp] theorem State.lineDir_cfgPin (s : State) (d : PinMode) : (s.lineDir d).cfgPin = s.cfgPin := rfl
@[simp] theorem State.lineDir_cfgTmr (s : State) (d : PinMode) : (s.lineDir d).cfgTmr = s.cfgTmr := rfl
@[simp] theorem State.lineDir_tmrRun (s : State) (d : PinMode) : (s.lineDir d).tmrRun = s.tmrRun := rfl
@[simp] theorem State.lineDir_cnt (s : State) (d : PinMode) : (s.lineDir d).cnt = s.cnt := rfl
@[simp] theorem State.lineDir_dly (s : State) (d : PinMode) : (s.lineDir d).dly = s.dly := rfl
@[simp] theorem State.lineDir_st (s : State) (d : PinMode) : (s.lineDir d).st = s.st := rfl
@[simp] theorem State.lineDir_bitIdx (s : State) (d : PinMode) : (s.lineDir d).bitIdx = s.bitIdx := rfl
@[simp] theorem State.lineDir_bitBuf (s : State) (d : PinMode) : (s.lineDir d).bitBuf = s.bitBuf := rfl
@[simp] theorem State.lineDir_dir (s : State) (d : PinMode) : (s.lineDir d).dir = d := rfl
@[simp] theorem State.lineDir_out (s : State) (d : PinMode) : (s.lineDir d).out = s.out := rfl
@[simp] theorem State.lineDir_humInt (s : State) (d : PinMode) : (s.lineDir d).humInt = s.humInt := rfl
@[simp] theorem State.lineDir_humFrac (s : State) (d : PinMode) : (s.lineDir d).humFrac = s.humFrac := rfl
@[simp] theorem State.lineDir_tmpInt (s : State) (d : PinMode) : (s.lineDir d).tmpInt = s.tmpInt := rfl
@[simp] theorem State.lineDir_tmpFrac (s : State) (d : PinMode) : (s.lineDir d).tmpFrac = s.tmpFrac := rfl
@[simp] theorem State.lineDir_humX10 (s : State) (d : PinMode) : (s.lineDir d).humX10 = s.humX10 := rfl
@[simp] theorem State.lineDir_tmpX10 (s : State) (d : PinMode) : (s.lineDir d).tmpX10 = s.tmpX10 := rfl
@[simp] theorem State.lineDir_failed (s : State) (d : PinMode) : (s.lineDir d).failed = s.failed := rfl
@[simp] theorem State.lineDir_rvalid (s : State) (d : PinMode) : (s.lineDir d).rvalid = s.rvalid := rfl
@[simp] theorem State.lineDir_tick (s : State) (d : PinMode) : (s.lineDir d).tick = s.tick := rfl
@[simp] theorem State.lineDir_inputs (s : State) (d : PinMode) : (s.lineDir d).inputs = s.inputs := rfl

/-! ### `LineWrite(v)` -/

@[simp] theorem State.lineWrite_params (s : State) (v : Level) : (s.lineWrite v).params = s.params := rfl
@[simp] theorem State.lineWrite_inited (s : State) (v : Level) : (s.lineWrite v).inited = s.inited := rfl
@[simp] theorem State.lineWrite_cfgPort (s : State) (v : Level) : (s.lineWrite v).cfgPort = s.cfgPort := rfl
@[simp] theorem State.lineWrite_cfgPin (s : State) (v : Level) : (s.lineWrite v).cfgPin = s.cfgPin := rfl
@[simp] theorem State.lineWrite_cfgTmr (s : State) (v : Level) : (s.lineWrite v).cfgTmr = s.cfgTmr := rfl
@[simp] theorem State.lineWrite_tmrRun (s : State) (v : Level) : (s.lineWrite v).tmrRun = s.tmrRun := rfl
@[simp] theorem State.lineWrite_cnt (s : State) (v : Level) : (s.lineWrite v).cnt = s.cnt := rfl
@[simp] theorem State.lineWrite_dly (s : State) (v : Level) : (s.lineWrite v).dly = s.dly := rfl
@[simp] theorem State.lineWrite_st (s : State) (v : Level) : (s.lineWrite v).st = s.st := rfl
@[simp] theorem State.lineWrite_bitIdx (s : State) (v : Level) : (s.lineWrite v).bitIdx = s.bitIdx := rfl
@[simp] theorem State.lineWrite_bitBuf (s : State) (v : Level) : (s.lineWrite v).bitBuf = s.bitBuf := rfl
@[simp] theorem State.lineWrite_dir (s : State) (v : Level) : (s.lineWrite v).dir = s.dir := rfl
@[simp] theorem State.lineWrite_out (s : State) (v : Level) : (s.lineWrite v).out = v := rfl
@[simp] theorem State.lineWrite_humInt (s : State) (v : Level) : (s.lineWrite v).humInt = s.humInt := rfl
@[simp] theorem State.lineWrite_humFrac (s : State) (v : Level) : (s.lineWrite v).humFrac = s.humFrac := rfl
@[simp] theorem State.lineWrite_tmpInt (s : State) (v : Level) : (s.lineWrite v).tmpInt = s.tmpInt := rfl
@[simp] theorem State.lineWrite_tmpFrac (s : State) (v : Level) : (s.lineWrite v).tmpFrac = s.tmpFrac := rfl
@[simp] theorem State.lineWrite_humX10 (s : State) (v : Level) : (s.lineWrite v).humX10 = s.humX10 := rfl
@[simp] theorem State.lineWrite_tmpX10 (s : State) (v : Level) : (s.lineWrite v).tmpX10 = s.tmpX10 := rfl
@[simp] theorem State.lineWrite_failed (s : State) (v : Level) : (s.lineWrite v).failed = s.failed := rfl
@[simp] theorem State.lineWrite_rvalid (s : State) (v : Level) : (s.lineWrite v).rvalid = s.rvalid := rfl
@[simp] theorem State.lineWrite_tick (s : State) (v : Level) : (s.lineWrite v).tick = s.tick := rfl
@[simp] theorem State.lineWrite_inputs (s : State) (v : Level) : (s.lineWrite v).inputs = s.inputs := rfl

/-! ### what INIT stores -/

@[simp] theorem State.storeHandles_params (s : State) (a b c : Nat) : (s.storeHandles a b c).params = s.params := rfl
@[simp] theorem State.storeHandles_inited (s : State) (a b c : Nat) : (s.storeHandles a b c).inited = true := rfl
@[simp] theorem State.storeHandles_cfgPort (s : State) (a b c : Nat) : (s.storeHandles a b c).cfgPort = wrap s.params.handleW a := rfl
@[simp] theorem State.storeHandles_cfgPin (s : State) (a b c : Nat) : (s.storeHandles a b c).cfgPin = wrap s.params.handleW b := rfl
@[simp] theorem State.storeHandles_cfgTmr (s : State) (a b c : Nat) : (s.storeHandles a b c).cfgTmr = wrap s.params.handleW c := rfl
@[simp] theorem State.storeHandles_tmrRun (s : State) (a b c : Nat) : (s.storeHandles a b c).tmrRun = s.tmrRun := rfl
@[simp] theorem State.storeHandles_cnt (s : State) (a b c : Nat) : (s.storeHandles a b c).cnt = s.cnt := rfl
@[simp] theorem State.storeHandles_dly (s : State) (a b c : Nat) : (s.storeHandles a b c).dly = s.dly := rfl
@[simp] theorem State.storeHandles_st (s : State) (a b c : Nat) : (s.storeHandles a b c).st = s.st := rfl
@[simp] theorem State.storeHandles_bitIdx (s : State) (a b c : Nat) : (s.storeHandles a b c).bitIdx = s.bitIdx := rfl
@[simp] theorem State.storeHandles_bitBuf (s : State) (a b c : Nat) : (s.storeHandles a b c).bitBuf = s.bitBuf := rfl
@[simp] theorem State.storeHandles_dir (s : State) (a b c : Nat) : (s.storeHandles a b c).dir = s.dir := rfl
@[simp] theorem State.storeHandles_out (s : State) (a b c : Nat) : (s.storeHandles a b c).out = s.out := rfl
@[simp] theorem State.storeHandles_humInt (s : State) (a b c : Nat) : (s.storeHandles a b c).humInt = s.humInt := rfl
@[simp] theorem State.storeHandles_humFrac (s : State) (a b c : Nat) : (s.storeHandles a b c).humFrac = s.humFrac := rfl
@[simp] theorem State.storeHandles_tmpInt (s : State) (a b c : Nat) : (s.storeHandles a b c).tmpInt = s.tmpInt := rfl
@[simp] theorem State.storeHandles_tmpFrac (s : State) (a b c : Nat) : (s.storeHandles a b c).tmpFrac = s.tmpFrac := rfl
@[simp] theorem State.storeHandles_humX10 (s : State) (a b c : Nat) : (s.storeHandles a b c).humX10 = s.humX10 := rfl
@[simp] theorem State.storeHandles_tmpX10 (s : State) (a b c : Nat) : (s.storeHandles a b c).tmpX10 = s.tmpX10 := rfl
@[simp] theorem State.storeHandles_failed (s : State) (a b c : Nat) : (s.storeHandles a b c).failed = s.failed := rfl
@[simp] theorem State.storeHandles_rvalid (s : State) (a b c : Nat) : (s.storeHandles a b c).rvalid = s.rvalid := rfl
@[simp] theorem State.storeHandles_tick (s : State) (a b c : Nat) : (s.storeHandles a b c).tick = s.tick := rfl
@[simp] theorem State.storeHandles_inputs (s : State) (a b c : Nat) : (s.storeHandles a b c).inputs = s.inputs := rfl

/-! ### what READ clears -/

@[simp] theorem State.clearForRead_params (s : State) : (s.clearForRead).params = s.params := rfl
@[simp] theorem State.clearForRead_inited (s : State) : (s.clearForRead).inited = s.inited := rfl
@[simp] theorem State.clearForRead_cfgPort (s : State) : (s.clearForRead).cfgPort = s.cfgPort := rfl
@[simp] theorem State.clearForRead_cfgPin (s : State) : (s.clearForRead).cfgPin = s.cfgPin := rfl
@[simp] theorem State.clearForRead_cfgTmr (s : State) : (s.clearForRead).cfgTmr = s.cfgTmr := rfl
@[simp] theorem State.clearForRead_tmrRun (s : State) : (s.clearForRead).tmrRun = s.tmrRun := rfl
@[simp] theorem State.clearForRead_cnt (s : State) : (s.clearForRead).cnt = s.cnt := rfl
@[simp] theorem State.clearForRead_dly (s : State) : (s.clearForRead).dly = 0 := rfl
@[simp] theorem State.clearForRead_st (s : State) : (s.clearForRead).st = s.st := rfl
@[simp] theorem State.clearForRead_bitIdx (s : State) : (s.clearForRead).bitIdx = 0 := rfl
@[simp] theorem State.clearForRead_bitBuf (s : State) : (s.clearForRead).bitBuf = slotsCleared := rfl
@[simp] theorem State.clearForRead_dir (s : State) : (s.clearForRead).dir = s.dir := rfl
@[simp] theorem State.clearForRead_out (s : State) : (s.clearForRead).out = s.out := rfl
@[simp] theorem State.clearForRead_humInt (s : State) : (s.clearForRead).humInt = s.humInt := rfl
@[simp] theorem State.clearForRead_humFrac (s : State) : (s.clearForRead).humFrac = s.humFrac := rfl
@[simp] theorem State.clearForRead_tmpInt (s : State) : (s.clearForRead).tmpInt = s.tmpInt := rfl
@[simp] theorem State.clearForRead_tmpFrac (s : State) : (s.clearForRead).tmpFrac = s.tmpFrac := rfl
@[simp] theorem State.clearForRead_humX10 (s : State) : (s.clearForRead).humX10 = s.humX10 := rfl
@[simp] theorem State.clearForRead_tmpX10 (s : State) : (s.clearForRead).tmpX10 = s.tmpX10 := rfl
@[simp] theorem State.clearForRead_failed (s : State) : (s.clearForRead).failed = s.failed := rfl
@[simp] theorem State.clearForRead_rvalid (s : State) : (s.clearForRead).rvalid = false := rfl
@[simp] theorem State.clearForRead_tick (s : State) : (s.clearForRead).tick = s.tick := rfl
@[simp] theorem State.clearForRead_inputs (s : State) : (s.clearForRead).inputs = s.inputs := rfl

/-! ### the writes of DECODE -/

@[simp] theorem State.writeResult_params (s : State) (b : Slots) : (s.writeResult b).params = s.params := rfl
@[simp] theorem State.writeResult_inited (s : State) (b : Slots) : (s.writeResult b).inited = s.inited := rfl
@[simp] theorem State.writeResult_cfgPort (s : State) (b : Slots) : (s.writeResult b).cfgPort = s.cfgPort := rfl
@[simp] theorem State.writeResult_cfgPin (s : State) (b : Slots) : (s.writeResult b).cfgPin = s.cfgPin := rfl
@[simp] theorem State.writeResult_cfgTmr (s : State) (b : Slots) : (s.writeResult b).cfgTmr = s.cfgTmr := rfl
@[simp] theorem State.writeResult_tmrRun (s : State) (b : Slots) : (s.writeResult b).tmrRun = s.tmrRun := rfl
@[simp] theorem State.writeResult_cnt (s : State) (b : Slots) : (s.writeResult b).cnt = s.cnt := rfl
@[simp] theorem State.writeResult_dly (s : State) (b : Slots) : (s.writeResult b).dly = s.dly := rfl
@[simp] theorem State.writeResult_st (s : State) (b : Slots) : (s.writeResult b).st = s.st := rfl
@[simp] theorem State.writeResult_bitIdx (s : State) (b : Slots) : (s.writeResult b).bitIdx = s.bitIdx := rfl
@[simp] theorem State.writeResult_bitBuf (s : State) (b : Slots) : (s.writeResult b).bitBuf = s.bitBuf := rfl
@[simp] theorem State.writeResult_dir (s : State) (b : Slots) : (s.writeResult b).dir = s.dir := rfl
@[simp] theorem State.writeResult_out (s : State) (b : Slots) : (s.writeResult b).out = s.out := rfl
@[simp] theorem State.writeResult_humInt (s : State) (b : Slots) : (s.writeResult b).humInt = fieldValue b .humInt := rfl
@[simp] theorem State.writeResult_humFrac (s : State) (b : Slots) : (s.writeResult b).humFrac = fieldValue b .humFrac := rfl
@[simp] theorem State.writeResult_tmpInt (s : State) (b : Slots) : (s.writeResult b).tmpInt = fieldValue b .tmpInt := rfl
@[simp] theorem State.writeResult_tmpFrac (s : State) (b : Slots) : (s.writeResult b).tmpFrac = fieldValue b .tmpFrac := rfl
@[simp] theorem State.writeResult_humX10 (s : State) (b : Slots) : (s.writeResult b).humX10 = tenths (fieldValue b .humInt) (fieldValue b .humFrac) := rfl
@[simp] theorem State.writeResult_tmpX10 (s : State) (b : Slots) : (s.writeResult b).tmpX10 = tenths (fieldValue b .tmpInt) (fieldValue b .tmpFrac) := rfl
@[simp] theorem State.writeResult_failed (s : State) (b : Slots) : (s.writeResult b).failed = false := rfl
@[simp] theorem State.writeResult_rvalid (s : State) (b : Slots) : (s.writeResult b).rvalid = true := rfl
@[simp] theorem State.writeResult_tick (s : State) (b : Slots) : (s.writeResult b).tick = s.tick := rfl
@[simp] theorem State.writeResult_inputs (s : State) (b : Slots) : (s.writeResult b).inputs = s.inputs := rfl

/-! ### `raise Timeout` -/

@[simp] theorem State.raiseTimeout_params (s : State) (n : Nat) : (s.raiseTimeout n).params = s.params := rfl
@[simp] theorem State.raiseTimeout_inited (s : State) (n : Nat) : (s.raiseTimeout n).inited = s.inited := rfl
@[simp] theorem State.raiseTimeout_cfgPort (s : State) (n : Nat) : (s.raiseTimeout n).cfgPort = s.cfgPort := rfl
@[simp] theorem State.raiseTimeout_cfgPin (s : State) (n : Nat) : (s.raiseTimeout n).cfgPin = s.cfgPin := rfl
@[simp] theorem State.raiseTimeout_cfgTmr (s : State) (n : Nat) : (s.raiseTimeout n).cfgTmr = s.cfgTmr := rfl
@[simp] theorem State.raiseTimeout_tmrRun (s : State) (n : Nat) : (s.raiseTimeout n).tmrRun = s.tmrRun := rfl
@[simp] theorem State.raiseTimeout_cnt (s : State) (n : Nat) : (s.raiseTimeout n).cnt = s.cnt := rfl
@[simp] theorem State.raiseTimeout_dly (s : State) (n : Nat) : (s.raiseTimeout n).dly = s.dly := rfl
@[simp] theorem State.raiseTimeout_st (s : State) (n : Nat) : (s.raiseTimeout n).st = .timedout := rfl
@[simp] theorem State.raiseTimeout_bitIdx (s : State) (n : Nat) : (s.raiseTimeout n).bitIdx = s.bitIdx := rfl
@[simp] theorem State.raiseTimeout_bitBuf (s : State) (n : Nat) : (s.raiseTimeout n).bitBuf = s.bitBuf := rfl
@[simp] theorem State.raiseTimeout_dir (s : State) (n : Nat) : (s.raiseTimeout n).dir = s.dir := rfl
@[simp] theorem State.raiseTimeout_out (s : State) (n : Nat) : (s.raiseTimeout n).out = s.out := rfl
@[simp] theorem State.raiseTimeout_humInt (s : State) (n : Nat) : (s.raiseTimeout n).humInt = Config.freeHumInt n := rfl
@[simp] theorem State.raiseTimeout_humFrac (s : State) (n : Nat) : (s.raiseTimeout n).humFrac = Config.freeHumFrac n := rfl
@[simp] theorem State.raiseTimeout_tmpInt (s : State) (n : Nat) : (s.raiseTimeout n).tmpInt = Config.freeTmpInt n := rfl
@[simp] theorem State.raiseTimeout_tmpFrac (s : State) (n : Nat) : (s.raiseTimeout n).tmpFrac = Config.freeTmpFrac n := rfl
@[simp] theorem State.raiseTimeout_humX10 (s : State) (n : Nat) : (s.raiseTimeout n).humX10 = Config.freeHumX10 n := rfl
@[simp] theorem State.raiseTimeout_tmpX10 (s : State) (n : Nat) : (s.raiseTimeout n).tmpX10 = Config.freeTmpX10 n := rfl
@[simp] theorem State.raiseTimeout_failed (s : State) (n : Nat) : (s.raiseTimeout n).failed = true := rfl
@[simp] theorem State.raiseTimeout_rvalid (s : State) (n : Nat) : (s.raiseTimeout n).rvalid = true := rfl
@[simp] theorem State.raiseTimeout_tick (s : State) (n : Nat) : (s.raiseTimeout n).tick = s.tick := rfl
@[simp] theorem State.raiseTimeout_inputs (s : State) (n : Nat) : (s.raiseTimeout n).inputs = s.inputs := rfl

/-! ### the reset state of a block -/

@[simp] theorem State.resetWith_params (p : Config.Params) : (State.resetWith p).params = p := rfl
@[simp] theorem State.resetWith_inited (p : Config.Params) : (State.resetWith p).inited = false := rfl
@[simp] theorem State.resetWith_cfgPort (p : Config.Params) : (State.resetWith p).cfgPort = 0 := rfl
@[simp] theorem State.resetWith_cfgPin (p : Config.Params) : (State.resetWith p).cfgPin = 0 := rfl
@[simp] theorem State.resetWith_cfgTmr (p : Config.Params) : (State.resetWith p).cfgTmr = 0 := rfl
@[simp] theorem State.resetWith_tmrRun (p : Config.Params) : (State.resetWith p).tmrRun = false := rfl
@[simp] theorem State.resetWith_cnt (p : Config.Params) : (State.resetWith p).cnt = 0 := rfl
@[simp] theorem State.resetWith_dly (p : Config.Params) : (State.resetWith p).dly = 0 := rfl
@[simp] theorem State.resetWith_st (p : Config.Params) : (State.resetWith p).st = .idle := rfl
@[simp] theorem State.resetWith_bitIdx (p : Config.Params) : (State.resetWith p).bitIdx = 0 := rfl
@[simp] theorem State.resetWith_bitBuf (p : Config.Params) : (State.resetWith p).bitBuf = slotsCleared := rfl
@[simp] theorem State.resetWith_dir (p : Config.Params) : (State.resetWith p).dir = .input := rfl
@[simp] theorem State.resetWith_out (p : Config.Params) : (State.resetWith p).out = true := rfl
@[simp] theorem State.resetWith_humInt (p : Config.Params) : (State.resetWith p).humInt = 0 := rfl
@[simp] theorem State.resetWith_humFrac (p : Config.Params) : (State.resetWith p).humFrac = 0 := rfl
@[simp] theorem State.resetWith_tmpInt (p : Config.Params) : (State.resetWith p).tmpInt = 0 := rfl
@[simp] theorem State.resetWith_tmpFrac (p : Config.Params) : (State.resetWith p).tmpFrac = 0 := rfl
@[simp] theorem State.resetWith_humX10 (p : Config.Params) : (State.resetWith p).humX10 = 0 := rfl
@[simp] theorem State.resetWith_tmpX10 (p : Config.Params) : (State.resetWith p).tmpX10 = 0 := rfl
@[simp] theorem State.resetWith_failed (p : Config.Params) : (State.resetWith p).failed = false := rfl
@[simp] theorem State.resetWith_rvalid (p : Config.Params) : (State.resetWith p).rvalid = false := rfl
@[simp] theorem State.resetWith_tick (p : Config.Params) : (State.resetWith p).tick = 0 := rfl
@[simp] theorem State.resetWith_inputs (p : Config.Params) : (State.resetWith p).inputs = [] := rfl

@[simp] theorem State.reset_eq : State.reset = State.resetWith Config.defaults := rfl

/-! ### the state after a reset tick -/

@[simp] theorem State.resetTick_params (s : State) : s.resetTick.params = s.params := rfl
@[simp] theorem State.resetTick_inited (s : State) : s.resetTick.inited = false := rfl
@[simp] theorem State.resetTick_cfgPort (s : State) : s.resetTick.cfgPort = 0 := rfl
@[simp] theorem State.resetTick_cfgPin (s : State) : s.resetTick.cfgPin = 0 := rfl
@[simp] theorem State.resetTick_cfgTmr (s : State) : s.resetTick.cfgTmr = 0 := rfl
@[simp] theorem State.resetTick_tmrRun (s : State) : s.resetTick.tmrRun = false := rfl
@[simp] theorem State.resetTick_cnt (s : State) : s.resetTick.cnt = 0 := rfl
@[simp] theorem State.resetTick_dly (s : State) : s.resetTick.dly = 0 := rfl
@[simp] theorem State.resetTick_st (s : State) : s.resetTick.st = .idle := rfl
@[simp] theorem State.resetTick_bitIdx (s : State) : s.resetTick.bitIdx = 0 := rfl
@[simp] theorem State.resetTick_bitBuf (s : State) : s.resetTick.bitBuf = slotsCleared := rfl
@[simp] theorem State.resetTick_dir (s : State) : s.resetTick.dir = .input := rfl
@[simp] theorem State.resetTick_out (s : State) : s.resetTick.out = true := rfl
@[simp] theorem State.resetTick_humInt (s : State) : s.resetTick.humInt = 0 := rfl
@[simp] theorem State.resetTick_humFrac (s : State) : s.resetTick.humFrac = 0 := rfl
@[simp] theorem State.resetTick_tmpInt (s : State) : s.resetTick.tmpInt = 0 := rfl
@[simp] theorem State.resetTick_tmpFrac (s : State) : s.resetTick.tmpFrac = 0 := rfl
@[simp] theorem State.resetTick_humX10 (s : State) : s.resetTick.humX10 = 0 := rfl
@[simp] theorem State.resetTick_tmpX10 (s : State) : s.resetTick.tmpX10 = 0 := rfl
@[simp] theorem State.resetTick_failed (s : State) : s.resetTick.failed = false := rfl
@[simp] theorem State.resetTick_rvalid (s : State) : s.resetTick.rvalid = false := rfl
@[simp] theorem State.resetTick_tick (s : State) : s.resetTick.tick = s.tick + 1 := rfl
@[simp] theorem State.resetTick_inputs (s : State) : s.resetTick.inputs = s.inputs.tail := rfl

@[simp] theorem State.endRead_eq (s : State) : s.endRead = s.goto .idle := rfl

end Sys2Proof.Machine
end

