-- ==== Sys2Proof/Laws/Ops.lean ====
section
/-! SUPPORT. For each shared operation, once, everything it can do. -/

namespace Sys2Proof.Machine

/-! ### The inputs of a tick -/

theorem State.inputAt_zero (s : State) : s.inputAt 0 = s.input := by
  cases h : s.inputs <;> simp [State.inputAt, State.input, h]

/-- The inputs after a tick are the inputs from the next tick on. -/
theorem inputAt_of_advanced {s t : State} (ht : t.tick = s.tick + 1) (hi : t.inputs = s.inputs.tail) (k : Nat) :
    t.inputAt k = s.inputAt (k + 1) := by
  simp [State.inputAt, ht, hi, List.getElem?_tail, Nat.add_assoc, Nat.add_comm 1 k]

theorem lineAt_of_advanced {s t : State} (ht : t.tick = s.tick + 1) (hi : t.inputs = s.inputs.tail) (k : Nat) :
    t.lineAt k = s.lineAt (k + 1) := by rw [State.lineAt, State.lineAt, inputAt_of_advanced ht hi]

theorem State.lineAt_zero (s : State) : s.lineAt 0 = s.lineRead := by rw [State.lineAt, s.inputAt_zero]; rfl

theorem quietFor_of_advanced {s t : State} (ht : t.tick = s.tick + 1) (hi : t.inputs = s.inputs.tail) {n : Nat}
    (h : s.quietFor (n + 1)) : t.quietFor n := fun k hk => by
  rw [inputAt_of_advanced ht hi]; exact h (k + 1) (by omega)

theorem State.input_of_quietFor {s : State} {n : Nat} (h : s.quietFor (n + 1)) :
    s.input.rst = false ∧ s.input.cmd.valid = false := by
  have h0 := h 0 (by omega)
  rw [s.inputAt_zero] at h0
  simpa [Input.quiet] using h0

theorem State.command_absent_iff (s : State) : s.command = .absent ↔ s.input.cmd.valid = false :=
  decodeCommand_absent_iff _

/-! ### Refusing a command -/

theorem refuseIfCommand_of_absent {s : State} (h : s.command = .absent) (r : Result) : refuseIfCommand s r = r := by
  simp [refuseIfCommand, h]

theorem refuseIfCommand_of_present {s : State} (h : s.command ≠ .absent) (r : Result) :
    refuseIfCommand s r = .refused .commandWhileBusy := by
  unfold refuseIfCommand; split <;> first | rfl | contradiction

/-- If a micro-operation that refuses commands answers a next state, no command was presented. -/
theorem refuseIfCommand_next {s t : State} {r : Result} (h : refuseIfCommand s r = .next t) :
    s.command = .absent ∧ r = .next t := by
  by_cases hc : s.command = .absent
  · exact ⟨hc, by rwa [refuseIfCommand_of_absent hc] at h⟩
  · rw [refuseIfCommand_of_present hc] at h; cases h

/-! ### The wait helper -/

/-- Everything a poll can do (R132): succeed, enter the Timeout, stay. -/
theorem waitFor_cases (level : Level) (succeed : State → State) (s : State) :
    (s.lineRead = level ∧ waitFor level succeed s = succeed s.advance.timerReset) ∨
    (s.lineRead ≠ level ∧ 200 < s.cnt ∧ waitFor level succeed s = s.advance.raiseTimeout s.tick) ∨
    (s.lineRead ≠ level ∧ s.cnt ≤ 200 ∧ waitFor level succeed s = s.advance) := by
  by_cases hl : s.lineRead = level
  · exact .inl ⟨hl, by simp [waitFor, hl]⟩
  · by_cases hc : 200 < s.cnt
    · exact .inr (.inl ⟨hl, hc, by simp [waitFor, hl, timeoutExceeded, Config.timeoutTicks, hc]⟩)
    · exact .inr (.inr ⟨hl, by omega, by simp [waitFor, hl, timeoutExceeded, Config.timeoutTicks, hc]⟩)

theorem waitFor_success {level : Level} {s : State} (succeed : State → State) (h : s.lineRead = level) :
    waitFor level succeed s = succeed s.advance.timerReset := by simp [waitFor, h]

theorem waitFor_timeout {level : Level} {s : State} (succeed : State → State) (h : s.lineRead ≠ level)
    (hc : 200 < s.cnt) : waitFor level succeed s = s.advance.raiseTimeout s.tick := by
  simp [waitFor, h, timeoutExceeded, Config.timeoutTicks, hc]

theorem waitFor_stay {level : Level} {s : State} (succeed : State → State) (h : s.lineRead ≠ level)
    (hc : s.cnt ≤ 200) : waitFor level succeed s = s.advance := by
  simp [waitFor, h, timeoutExceeded, Config.timeoutTicks, Nat.not_lt.2 hc]

/-- The entry of the Timeout is the transition of R193. -/
theorem timeoutEntered_raiseTimeout (s : State) : TimeoutEntered s (s.advance.raiseTimeout s.tick) :=
  ⟨_, _, _, _, _, _, rfl⟩

/-! ### The counter -/

theorem wrap_lt (w n : Nat) : wrap w n < 2 ^ w := Nat.mod_lt _ (Nat.two_pow_pos w)

theorem wrap_of_lt {w n : Nat} (h : n < 2 ^ w) : wrap w n = n := Nat.mod_eq_of_lt h

/-- A handle of HANDLE_W bits is stored whole. -/
theorem wrap_of_handleFits {p : Config.Params} {h : Nat} (hf : handleFits p h = true) : wrap p.handleW h = h :=
  wrap_of_lt (by simpa [handleFits] using hf)

theorem countedUp_of_running {s : State} (h : s.tmrRun = true) : countedUp s = wrap s.params.cntW (s.cnt + 1) := by
  simp [countedUp, h]

/-- The counter update reads three fields. -/
theorem countedUp_congr {s s' : State} (hr : s'.tmrRun = s.tmrRun) (hw : s'.params.cntW = s.params.cntW)
    (hc : s'.cnt = s.cnt) : countedUp s' = countedUp s := by simp only [countedUp, hr, hw, hc]

/-- The counter does not wrap inside a wait or the delay (R9, R179). -/
theorem countedUp_of_lt {s : State} (hp : s.params.legal = true) (h : s.tmrRun = true) (hc : s.cnt ≤ 201) :
    countedUp s = s.cnt + 1 := by
  rw [countedUp_of_running h, wrap_of_lt]
  have := legal_cntW hp
  omega

theorem countedUp_le (s : State) : countedUp s ≤ s.cnt + 1 := by
  unfold countedUp
  split
  · exact Nat.mod_le _ _
  · omega

/-- CNT keeps its width. -/
theorem countedUp_fits {s : State} (h : s.cnt < 2 ^ s.params.cntW) : countedUp s < 2 ^ s.params.cntW := by
  unfold countedUp
  split
  · exact wrap_lt _ _
  · exact h

/-- DLY does not overflow in START_LOW (R179). -/
theorem wrap_dly {p : Config.Params} {n : Nat} (hp : p.legal = true) (h : n < p.startLowTicks - 1) :
    wrap p.dlyW (n + 1) = n + 1 := wrap_of_lt (by have := legal_dlyW hp; omega)

/-! ### Slots -/

@[simp] theorem slotRead_slotsCleared (i : Fin 40) : slotRead slotsCleared i = false := by
  simp [slotRead, slotsCleared]

theorem slotWrite_of_lt {b : Slots} {i : SlotIndex} {v : Level} (h : i.toNat < 40) :
    slotWrite b i v = some (b.set i.toNat v h) := by simp [slotWrite, h]

theorem slotWrite_of_ge {b : Slots} {i : SlotIndex} {v : Level} (h : 40 ≤ i.toNat) : slotWrite b i v = none := by
  simp [slotWrite, Nat.not_lt.2 h]

/-- A write that succeeds had an address below 40, sets that cell and leaves every other one (R62). -/
theorem slotWrite_some {b c : Slots} {i : SlotIndex} {v : Level} (h : slotWrite b i v = some c) :
    i.toNat < 40 ∧ ∀ j : Fin 40, slotRead c j = if j.val = i.toNat then v else slotRead b j := by
  by_cases hi : i.toNat < 40
  · refine ⟨hi, fun j => ?_⟩
    rw [slotWrite_of_lt hi] at h
    cases h
    simp [slotRead, Vector.getElem_set, eq_comm]
  · rw [slotWrite_of_ge (by omega)] at h; cases h

/-! ### Readings -/

/-- R172: the tenths are exact, at most 2805. -/
theorem tenths_toNat (i f : Byte) : (tenths i f).toNat = 10 * i.toNat + f.toNat := by
  have := i.isLt
  have := f.isLt
  simp only [tenths, Config.fracDiv, BitVec.toNat_add, BitVec.toNat_mul, BitVec.toNat_ofNat, BitVec.toNat_setWidth]
  omega

/-! ### Admissions -/

theorem admitInit_next {port pin tmr : Nat} {s t : State} (h : admitInit port pin tmr s = .next t) :
    s.inited = false ∧
    t = (s.advance.storeHandles port pin tmr).timerStart.goto .idle := by
  unfold admitInit at h
  split at h
  · cases h
  · cases h; exact ⟨by simp_all, rfl⟩

theorem admitRead_next {s t : State} (h : admitRead s = .next t) :
    s.inited = true ∧ t = (((s.advance.lineDir .output).lineWrite false).clearForRead).goto .startLow := by
  unfold admitRead at h
  split at h
  · cases h; exact ⟨by assumption, rfl⟩
  · cases h

/-! ### Ending a slot -/

theorem endSlot_cases (s : State) :
    (s.bitIdx = 39#6 ∧ s.endSlot = s.goto .decode) ∨
    (s.bitIdx ≠ 39#6 ∧ s.endSlot = { s with bitIdx := s.bitIdx + 1 }.goto .bitRise) := by
  by_cases h : s.bitIdx = 39#6
  · exact .inl ⟨h, by simp [State.endSlot, lastSlot, h]⟩
  · exact .inr ⟨h, by simp [State.endSlot, lastSlot, h]⟩

/-- Everything a BIT_HOLD tick can do when it answers a next state (R152, R153). -/
theorem bitHoldTick_next {s t : State} (h : bitHoldTick s = .next t) :
    (s.cnt < 40 ∧ t = s.advance.goto .bitHold) ∨
    (40 ≤ s.cnt ∧ ∃ b, slotWrite s.bitBuf s.bitIdx s.lineRead = some b ∧
      t = { s.advance with bitBuf := b }.timerReset.goto .bitFall) := by
  by_cases hc : s.cnt < 40
  · simp [bitHoldTick, delayRunning, Config.sampleDelayTicks, hc] at h
    exact .inl ⟨hc, h.symm⟩
  · simp [bitHoldTick, delayRunning, Config.sampleDelayTicks, hc, sampleTick] at h
    refine .inr ⟨by omega, ?_⟩
    split at h
    · rename_i b hb; cases h; exact ⟨b, hb, rfl⟩
    · cases h

end Sys2Proof.Machine
end

