-- ==== Sys2Proof/Laws/PerInstr.lean ====
section
/-! SUPPORT. The per-instruction family CanonicalWord: the encoder's word of an instruction is well formed. -/

namespace Sys2Proof.Laws.CanonicalWord

/-- The encoder's word is in canonical form. -/
def Statement (i : Instr) : Prop := (encode i).wf = true

theorem nocmd : Statement .nocmd := rfl
theorem init (port pin tmr : Nat) : Statement (.init port pin tmr) := rfl
theorem read : Statement .read := rfl
theorem idle : Statement .idle := rfl
theorem startLow : Statement .startLow := rfl
theorem startRel : Statement .startRel := rfl
theorem ackLow1 : Statement .ackLow1 := rfl
theorem ackHigh : Statement .ackHigh := rfl
theorem ackLow2 : Statement .ackLow2 := rfl
theorem bitRise : Statement .bitRise := rfl
theorem bitHold : Statement .bitHold := rfl
theorem bitFall : Statement .bitFall := rfl
theorem decode : Statement .decode := rfl
theorem done : Statement .done := rfl
theorem timedout : Statement .timedout := rfl

end Sys2Proof.Laws.CanonicalWord
end

