-- ==== Sys2Proof/Laws/Step.lean ====
section
/-! SUPPORT. What a tick can do: step, run, and the one inversion lemma that every invariant and every frame
follows from. -/

namespace Sys2Proof.Machine

theorem step_of_rst {s : State} (h : s.input.rst = true) : step s = .next s.resetTick := by simp [step, h]

theorem step_of_not_rst {s : State} (h : s.input.rst = false) : step s = exec s.st.instr s := by simp [step, h]

/-- The tick of the micro-operation in ST with no command is NOCMD's. -/
theorem exec_selected {s : State} (h : s.command = .absent) : exec s.st.instr s = selectedTick s := by
  unfold selectedTick
  cases hs : s.st <;>
    simp [SeqState.instr, exec, execIdle, execStartLow, execStartRel, execAckLow1, execAckHigh, execAckLow2,
      execBitRise, execBitHold, execBitFall, execDecode, execDone, execTimedout, refuseIfCommand_of_absent h, h]

/-- Outside IDLE a command is refused. -/
theorem exec_busy_command {s : State} (hs : s.st ≠ .idle) (h : s.command ≠ .absent) :
    exec s.st.instr s = .refused .commandWhileBusy := by
  cases hx : s.st <;>
    simp [SeqState.instr, exec, execStartLow, execStartRel, execAckLow1, execAckHigh, execAckLow2,
      execBitRise, execBitHold, execBitFall, execDecode, execDone, execTimedout, refuseIfCommand_of_present h, hx] at hs ⊢

/-- Everything a tick that answers a next state can be: a reset, the micro-operation alone, INIT in IDLE, READ
in IDLE. -/
theorem step_next {s t : State} (h : step s = .next t) :
    (s.input.rst = true ∧ t = s.resetTick) ∨
    (s.input.rst = false ∧ s.command = .absent ∧ selectedTick s = .next t) ∨
    (s.input.rst = false ∧ s.st = .idle ∧ ∃ port pin tmr, s.command = .init port pin tmr ∧
      admitInit port pin tmr s = .next t) ∨
    (s.input.rst = false ∧ s.st = .idle ∧ s.command = .read ∧ admitRead s = .next t) := by
  cases hr : s.input.rst
  · rw [step_of_not_rst hr] at h
    by_cases hc : s.command = .absent
    · exact .inr (.inl ⟨rfl, hc, by rwa [exec_selected hc] at h⟩)
    · by_cases hs : s.st = .idle
      · simp only [hs, SeqState.instr, exec, execIdle] at h
        cases hk : s.command with
        | absent => exact absurd hk hc
        | init port pin tmr => rw [hk] at h; exact .inr (.inr (.inl ⟨rfl, hs, _, _, _, rfl, h⟩))
        | read => rw [hk] at h; exact .inr (.inr (.inr ⟨rfl, hs, rfl, h⟩))
      · rw [exec_busy_command hs hc] at h; cases h
  · rw [step_of_rst hr] at h; cases h; exact .inl ⟨rfl, rfl⟩

/-- The transitions of the block, one constructor per way a tick answers a next state: the edges of R38 with
their guards and their whole effect. -/
inductive Tick (s : State) : State → Prop
  | reset (hr : s.input.rst = true) : Tick s s.resetTick
  | idle (hr : s.input.rst = false) (hc : s.command = .absent) (hs : s.st = .idle) : Tick s (s.advance.goto .idle)
  | init (port pin tmr : Nat) (hr : s.input.rst = false) (hc : s.command = .init port pin tmr)
      (hs : s.st = .idle) (hi : s.inited = false) :
      Tick s ((s.advance.storeHandles port pin tmr).timerStart.goto .idle)
  | read (hr : s.input.rst = false) (hc : s.command = .read) (hs : s.st = .idle) (hi : s.inited = true) :
      Tick s ((((s.advance.lineDir .output).lineWrite false).clearForRead).goto .startLow)
  | startCounts (hr : s.input.rst = false) (hc : s.command = .absent) (hs : s.st = .startLow)
      (hd : s.dly ≠ s.params.startLowTicks - 1) : Tick s ({ s.advance with dly := wrap s.params.dlyW (s.dly + 1) }.goto .startLow)
  | startEnds (hr : s.input.rst = false) (hc : s.command = .absent) (hs : s.st = .startLow)
      (hd : s.dly = s.params.startLowTicks - 1) : Tick s ((s.advance.lineWrite true).goto .startRel)
  | startRel (hr : s.input.rst = false) (hc : s.command = .absent) (hs : s.st = .startRel) :
      Tick s ((s.advance.lineDir .input).timerReset.goto .ackLow1)
  | ackLow1 (hr : s.input.rst = false) (hc : s.command = .absent) (hs : s.st = .ackLow1) (hl : s.lineRead = false) :
      Tick s (s.advance.timerReset.goto .ackHigh)
  | ackHigh (hr : s.input.rst = false) (hc : s.command = .absent) (hs : s.st = .ackHigh) (hl : s.lineRead = true) :
      Tick s (s.advance.timerReset.goto .ackLow2)
  | ackLow2 (hr : s.input.rst = false) (hc : s.command = .absent) (hs : s.st = .ackLow2) (hl : s.lineRead = false) :
      Tick s (s.advance.timerReset.goto .bitRise)
  | bitRise (hr : s.input.rst = false) (hc : s.command = .absent) (hs : s.st = .bitRise) (hl : s.lineRead = true) :
      Tick s (s.advance.timerReset.goto .bitHold)
  | holds (hr : s.input.rst = false) (hc : s.command = .absent) (hs : s.st = .bitHold) (hk : s.cnt < 40) :
      Tick s (s.advance.goto .bitHold)
  | samples (b : Slots) (hr : s.input.rst = false) (hc : s.command = .absent) (hs : s.st = .bitHold)
      (hk : 40 ≤ s.cnt) (hb : slotWrite s.bitBuf s.bitIdx s.lineRead = some b) :
      Tick s ({ s.advance with bitBuf := b }.timerReset.goto .bitFall)
  | lastSlotEnds (hr : s.input.rst = false) (hc : s.command = .absent) (hs : s.st = .bitFall)
      (hl : s.lineRead = false) (hx : s.bitIdx = 39#6) : Tick s (s.advance.timerReset.goto .decode)
  | slotEnds (hr : s.input.rst = false) (hc : s.command = .absent) (hs : s.st = .bitFall)
      (hl : s.lineRead = false) (hx : s.bitIdx ≠ 39#6) :
      Tick s ({ s.advance.timerReset with bitIdx := s.bitIdx + 1 }.goto .bitRise)
  | stays (v : Level) (hr : s.input.rst = false) (hc : s.command = .absent) (hs : waitedLevel s.st = some v)
      (hl : s.lineRead ≠ v) (hk : s.cnt ≤ 200) : Tick s s.advance
  | timesOut (v : Level) (hr : s.input.rst = false) (hc : s.command = .absent) (hs : waitedLevel s.st = some v)
      (hl : s.lineRead ≠ v) (hk : 200 < s.cnt) : Tick s (s.advance.raiseTimeout s.tick)
  | decode (hr : s.input.rst = false) (hc : s.command = .absent) (hs : s.st = .decode) :
      Tick s ((s.advance.writeResult s.bitBuf).goto .done)
  | done (hr : s.input.rst = false) (hc : s.command = .absent) (hs : s.st = .done) : Tick s (s.advance.goto .idle)
  | timedout (hr : s.input.rst = false) (hc : s.command = .absent) (hs : s.st = .timedout) :
      Tick s (s.advance.goto .idle)

theorem startPulseEnds_iff (s : State) : startPulseEnds s = true ↔ s.dly = s.params.startLowTicks - 1 := by
  rw [startPulseEnds, beq_iff_eq]

/-- A wait's tick is a success, a Timeout or a stay. -/
theorem tick_of_wait {s t : State} {v : Level} {f : State → State} (hr : s.input.rst = false)
    (hc : s.command = .absent) (hs : waitedLevel s.st = some v) (ht : waitFor v f s = t)
    (hf : s.lineRead = v → Tick s (f s.advance.timerReset)) : Tick s t := by
  subst ht
  obtain ⟨hl, e⟩ | ⟨hl, hk, e⟩ | ⟨hl, hk, e⟩ := waitFor_cases v f s <;> rw [e]
  · exact hf hl
  · exact .timesOut v hr hc hs hl hk
  · exact .stays v hr hc hs hl hk

/-- Everything a tick that answers a next state can do. -/
theorem tick_of_step {s t : State} (h : step s = .next t) : Tick s t := by
  obtain ⟨hr, rfl⟩ | ⟨hr, hc, h⟩ | ⟨hr, hs, _, _, _, hc, h⟩ | ⟨hr, hs, hc, h⟩ := step_next h
  · exact .reset hr
  · unfold selectedTick at h
    cases hs : s.st <;> simp only [hs] at h
    case startLow =>
      unfold startLowTick at h
      split at h <;> cases h
      · exact .startEnds hr hc hs ((startPulseEnds_iff s).1 ‹_›)
      · exact .startCounts hr hc hs fun hd => ‹¬_› ((startPulseEnds_iff s).2 hd)
    case bitHold =>
      obtain ⟨hk, rfl⟩ | ⟨hk, b, hb, rfl⟩ := bitHoldTick_next h
      · exact .holds hr hc hs hk
      · exact .samples b hr hc hs hk hb
    case ackLow1 => cases h; exact tick_of_wait hr hc (by rw [hs]; rfl) rfl (.ackLow1 hr hc hs)
    case ackHigh => cases h; exact tick_of_wait hr hc (by rw [hs]; rfl) rfl (.ackHigh hr hc hs)
    case ackLow2 => cases h; exact tick_of_wait hr hc (by rw [hs]; rfl) rfl (.ackLow2 hr hc hs)
    case bitRise => cases h; exact tick_of_wait hr hc (by rw [hs]; rfl) rfl (.bitRise hr hc hs)
    case bitFall =>
      cases h
      refine tick_of_wait hr hc (by rw [hs]; rfl) rfl fun hl => ?_
      obtain ⟨hx, e⟩ | ⟨hx, e⟩ := endSlot_cases s.advance.timerReset <;> rw [e]
      · exact .lastSlotEnds hr hc hs hl hx
      · exact .slotEnds hr hc hs hl hx
    case idle => cases h; exact .idle hr hc hs
    case startRel => cases h; exact .startRel hr hc hs
    case decode => cases h; exact .decode hr hc hs
    case done => cases h; exact .done hr hc hs
    case timedout => cases h; exact .timedout hr hc hs
  · obtain ⟨hi, rfl⟩ := admitInit_next h; exact .init _ _ _ hr hc hs hi
  · obtain ⟨hi, rfl⟩ := admitRead_next h; exact .read hr hc hs hi

/-- A tick that answers a next state moves to the next tick and uses up one input. -/
theorem step_next_clock {s t : State} (h : step s = .next t) : t.tick = s.tick + 1 ∧ t.inputs = s.inputs.tail := by
  cases tick_of_step h <;> exact ⟨rfl, rfl⟩

/-- No tick writes the parameters (R37). -/
theorem step_next_params {s t : State} (h : step s = .next t) : t.params = s.params := by
  cases tick_of_step h <;> rfl

/-! ### Two ticks side by side -/

theorem outcomesAgree_ite {R : State → State → Prop} {c : Prop} [Decidable c] {a b a' b' : Result}
    (h : outcomesAgree R a a') (h' : outcomesAgree R b b') :
    outcomesAgree R (if c then a else b) (if c then a' else b') := by split <;> assumption

theorem related_ite {R : State → State → Prop} {c : Prop} [Decidable c] {a b a' b' : State}
    (h : R a a') (h' : R b b') : R (if c then a else b) (if c then a' else b') := by split <;> assumption

/-- Two states with the same inputs, ST and INITED have related ticks if their resets, their micro-operations
alone, and their admissions of INIT and of READ are related. -/
theorem outcomesAgree_step {R : State → State → Prop} {s s' : State} (hin : s'.input = s.input) (hst : s'.st = s.st)
    (hreset : R s.resetTick s'.resetTick)
    (hsel : outcomesAgree R (selectedTick s) (selectedTick s'))
    (hinit : ∀ port pin tmr, outcomesAgree R (admitInit port pin tmr s) (admitInit port pin tmr s'))
    (hread : outcomesAgree R (admitRead s) (admitRead s')) : outcomesAgree R (step s) (step s') := by
  have hcmd : s'.command = s.command := by simp [State.command, hin]
  cases hr : s.input.rst
  · rw [step_of_not_rst hr, step_of_not_rst (by rw [hin]; exact hr)]
    by_cases hc : s.command = .absent
    · rw [exec_selected hc, exec_selected (by rw [hcmd]; exact hc)]; exact hsel
    · by_cases hs : s.st = .idle
      · rw [hst, hs]
        simp only [SeqState.instr, exec, execIdle, hcmd]
        cases hk : s.command with
        | absent => exact absurd hk hc
        | init port pin tmr => exact hinit port pin tmr
        | read => exact hread
      · rw [exec_busy_command hs hc, exec_busy_command (by rw [hst]; exact hs) (by rw [hcmd]; exact hc)]
        exact rfl
  · rw [step_of_rst hr, step_of_rst (by rw [hin]; exact hr)]; exact hreset

/-! ### Runs -/

/-- Ticks for which no input is scripted are quiet (log 1). -/
theorem State.quietFor_of_unscripted {s : State} (h : s.inputs = []) (n : Nat) : s.quietFor n := fun k _ => by
  simp [State.inputAt, h, Input.unscripted, Input.quiet, CommandPort.absent]

@[simp] theorem run_zero (s : State) : run 0 s = .next s := rfl

theorem run_succ_of_next {s t : State} (h : step s = .next t) (n : Nat) : run (n + 1) s = run n t := by
  simp [run, h]

/-- A run of `m + n` ticks is `m` ticks, then `n`. -/
theorem run_add {s t : State} {m : Nat} (h : run m s = .next t) (n : Nat) : run (m + n) s = run n t := by
  induction m generalizing s with
  | zero => cases h; simp
  | succ m ih =>
    rw [Nat.succ_add]
    simp only [run] at h ⊢
    cases hs : step s with
    | next u => rw [hs] at h; exact ih h
    | fault r => rw [hs] at h; cases h
    | refused r => rw [hs] at h; cases h

/-- `run` is the host's run of the machine. -/
theorem run_eq_core (n : Nat) (s : State) : run n s = Host.Core.run Sys2Proof.core n s := by
  induction n generalizing s with
  | zero => rfl
  | succ n ih =>
    simp only [run, Host.Core.run]
    cases h : step s with
    | next t => rw [show Sys2Proof.core.step s = .next t from h]; exact ih t
    | fault r => rw [show Sys2Proof.core.step s = .fault r from h]; rfl
    | refused r => rw [show Sys2Proof.core.step s = .refused r from h]; rfl

end Sys2Proof.Machine
end

