-- ==== Sys2Proof/Machine/Script.lean ====
section
/-! DEFINITION. The script notation of spec/30_encoding.md R98, as ticks of the machine. It is the host and
the line of a test, not the block: no step uses it. -/

namespace Sys2Proof.Machine

/-- One line of a script (R98). -/
inductive ScriptLine where
  | reset
  | init (port pin tmr : Nat)
  | read
  | waitIdle
  | ticks (n : Nat)
  deriving DecidableEq, Repr

/-- One run of a line stimulus (R98): `H x n` or `L x n`; no count stands for `x *`, for ever. -/
structure LevelRun where
  level : Level
  count : Option Nat
  deriving DecidableEq, Repr

/-- A line stimulus: runs of levels beginning at a stated tick (R98). -/
structure Stimulus where
  start : Nat
  runs  : List LevelRun
  deriving DecidableEq, Repr

/-- The level `n` ticks into a list of runs; ticks not covered are high (R98). -/
def levelInRuns : List LevelRun → Nat → Level
  | [], _ => true
  | r :: rest, n =>
    match r.count with
    | none   => r.level
    | some c => if n < c then r.level else levelInRuns rest (n - c)

/-- The level a stimulus gives in a tick. -/
def Stimulus.levelAt (w : Stimulus) (tick : Nat) : Level :=
  if tick < w.start then true else levelInRuns w.runs (tick - w.start)

/-- One tick with the given `rst` and command, the line as the stimulus says. -/
def scriptTick (w : Stimulus) (rst : Bool) (cmd : CommandPort) (s : State) : Result :=
  step { s with inputs := [{ rst, cmd, line := w.levelAt s.tick }] }

/-- Run a script, at most `fuel` actions; `none` if the fuel does not reach its end (log 13). -/
def runScript (w : Stimulus) : Nat → List ScriptLine → State → Option Result
  | _, [], s => some (.next s)
  | 0, _ :: _, _ => none
  | fuel + 1, line :: rest, s =>
    let go (rst : Bool) (cmd : CommandPort) (lines : List ScriptLine) : Option Result :=
      match scriptTick w rst cmd s with
      | .next t    => runScript w fuel lines t
      | .fault r   => some (.fault r)
      | .refused r => some (.refused r)
    match line with
    | .reset             => go true CommandPort.absent rest
    | .init port pin tmr => go false { valid := true, op := false, port, pin, tmr } rest
    | .read              => go false { valid := true, op := true, port := 0, pin := 0, tmr := 0 } rest
    | .ticks 0           => runScript w fuel rest s
    | .ticks (n + 1)     => go false CommandPort.absent (.ticks n :: rest)
    | .waitIdle          => if busy s then go false CommandPort.absent (.waitIdle :: rest) else runScript w fuel rest s

end Sys2Proof.Machine
end

