-- ==== Sys2Proof/Tests/Slice0.lean ====
section
/-! SUPPORT. Tests with expected results from spec/95_test_vectors.md and the encoding tables, the refusals of
WellFormed, and for each obligation with hypotheses a witness that meets them. -/

namespace Sys2Proof.Tests

open Sys2Proof Sys2Proof.Machine

/-! ### Helpers -/

/-- An initialised block in state `x` with CNT at `c`, one tick scripted, quiet, with level `l`. -/
def inState (x : SeqState) (c : Nat) (l : Level) : State :=
  { State.reset with inited := true, tmrRun := true, st := x, cnt := c, inputs := [Input.level l] }

/-- `s` with a command on the port of the tick. -/
def withCmd (s : State) (p : CommandPort) : State := { s with inputs := [{ rst := false, cmd := p, line := true }] }

/-- READ on the command port. -/
def readPort : CommandPort := { valid := true, op := true, port := 0, pin := 0, tmr := 0 }

/-- INIT on the command port. -/
def initPort (port pin tmr : Nat) : CommandPort := { valid := true, op := false, port, pin, tmr }

/-- A field of the next state, if there is one. -/
def after {α : Type} (f : State → α) : Result → Option α
  | .next t => some (f t)
  | _       => none

/-- The refusal, if it is one. -/
def refusal : Result → Option Refusal
  | .refused r => some r
  | _          => none

/-- Frame F1 = 0x3C0519035D, slots 0 to 39 as 95_test_vectors.md prints them. -/
def slotsF1 : Slots :=
  #v[false, false, true, true, true, true, false, false,
     false, false, false, false, false, true, false, true,
     false, false, false, true, true, false, false, true,
     false, false, false, false, false, false, true, true,
     false, true, false, true, true, true, false, true]

/-- Frame F3, all 1. -/
def slotsF3 : Slots := Vector.replicate 40 true

/-! ### WellFormed refuses -/

theorem test_wf_refuses_reserved_code : (Encoded.stateCode 12#4).wf = false := by decide
theorem test_wf_accepts_last_code : (Encoded.stateCode 11#4).wf = true := by decide
theorem test_wf_refuses_nocmd_with_op :
    (Encoded.command { CommandPort.absent with op := true }).wf = false := by decide
theorem test_wf_refuses_nocmd_with_operand :
    (Encoded.command { CommandPort.absent with pin := 1 }).wf = false := by decide
theorem test_wf_refuses_read_with_operand : (Encoded.command { readPort with tmr := 5 }).wf = false := by decide
theorem test_wf_refuses_wide_operand :
    (Instr.init 256 0 0).wf Config.defaults = false ∧ (Instr.init 0 256 0).wf Config.defaults = false ∧
    (Instr.init 0 0 256).wf Config.defaults = false := by decide
theorem test_wf_accepts_operands : (Instr.init 255 255 255).wf Config.defaults = true := by decide
theorem test_fits_refuses_wide_operand : (initPort 0 0 256).fits Config.defaults = false := by decide
theorem test_wf_accepts_init : (Encoded.command (initPort 255 0 7)).wf = true := by decide

/-! ### Words written out from the tables of R82 and R83 -/

theorem test_word_nocmd : decodeWord .cmd 0b00 = .ok .nocmd := by decide
theorem test_word_nocmd_op : decodeWord .cmd 0b01 = .ok .nocmd := by decide
theorem test_word_init : decodeWord .cmd 0b10 = .ok (.init 0 0 0) := by decide
theorem test_word_read : decodeWord .cmd 0b11 = .ok .read := by decide
theorem test_word_idle : decodeWord .ustate 0b0000 = .ok .idle := by decide
theorem test_word_startLow : decodeWord .ustate 0b0001 = .ok .startLow := by decide
theorem test_word_startRel : decodeWord .ustate 0b0010 = .ok .startRel := by decide
theorem test_word_ackLow1 : decodeWord .ustate 0b0011 = .ok .ackLow1 := by decide
theorem test_word_ackHigh : decodeWord .ustate 0b0100 = .ok .ackHigh := by decide
theorem test_word_ackLow2 : decodeWord .ustate 0b0101 = .ok .ackLow2 := by decide
theorem test_word_bitRise : decodeWord .ustate 0b0110 = .ok .bitRise := by decide
theorem test_word_bitHold : decodeWord .ustate 0b0111 = .ok .bitHold := by decide
theorem test_word_bitFall : decodeWord .ustate 0b1000 = .ok .bitFall := by decide
theorem test_word_decode : decodeWord .ustate 0b1001 = .ok .decode := by decide
theorem test_word_done : decodeWord .ustate 0b1010 = .ok .done := by decide
theorem test_word_timedout : decodeWord .ustate 0b1011 = .ok .timedout := by decide
theorem test_word_reserved : decodeWord .ustate 0b1100 = .error .reservedStateCode := by decide
theorem test_word_too_wide : decodeWord .cmd 4 = .error .wordTooWide := by decide
theorem test_port_init_operands : decode (.command (initPort 0 1 2)) = .ok (.init 0 1 2) := by decide

/-- The host's table words: two bits are a command, a whole byte is a state code (log 7). -/
theorem test_table_words :
    decodeTableWord 2 3 = some .read ∧ decodeTableWord 4 3 = some .ackLow1 ∧
    decodeTableWord 8 11 = some .timedout ∧ decodeTableWord 8 12 = none := by decide

/-! ### Commands (V1 to V10, V52) -/

/-- V1: reset state, no command: nothing but the tick number changes. -/
theorem test_idle_before_init :
    after (fun t => (t.st, t.cnt, t.outputs.busy, t.outputs.lineOe)) (step (withCmd State.reset CommandPort.absent)) =
      some (.idle, 0, false, false) := by decide

/-- V2: `INIT 0 1 2` in the reset state. -/
theorem test_init :
    after (fun t => ((t.inited, t.tmrRun, t.cnt, t.st), (t.cfgPort, t.cfgPin, t.cfgTmr), (t.dir, t.out)))
      (step (withCmd State.reset (initPort 0 1 2))) =
      some ((true, true, 0, .idle), (0, 1, 2), (.input, true)) := by decide

/-- V3: READ with a previous result: BITBUF and BITIDX cleared, the result kept and marked stale. -/
theorem test_read :
    after (fun t => ((t.st, t.dir, t.out, t.dly), (t.bitIdx, t.rvalid, t.humX10, t.failed)))
      (step (withCmd { inState .idle 9 true with
        humX10 := 605, rvalid := true, bitBuf := slotsF1, bitIdx := 39, dly := 17999 } readPort)) =
      some ((.startLow, .output, false, 0), (0, false, 605, false)) := by decide

theorem test_read_clears_slots :
    after (fun t => t.bitBuf.toList) (step (withCmd { inState .idle 9 true with bitBuf := slotsF1 } readPort)) =
      some (List.replicate 40 false) := by decide

/-- V10: `cmd_valid` = 0 with `cmd_op` = 1 and operands is no command; CNT counts. -/
theorem test_nocmd_ignores_op :
    after (fun t => (t.st, t.cnt, t.inited, t.cfgPort))
      (step (withCmd (inState .idle 4 true) { valid := false, op := true, port := 9, pin := 9, tmr := 9 })) =
      some (.idle, 5, true, 0) := by decide

/-- V5, V6, V7, V8: the three refusals; the DONE tick is still busy. -/
theorem test_read_before_init : refusal (step (withCmd State.reset readPort)) = some .readBeforeInit := by decide
theorem test_repeated_init :
    refusal (step (withCmd (inState .idle 0 true) (initPort 5 5 5))) = some .repeatedInit := by decide
theorem test_command_while_busy :
    refusal (step (withCmd (inState .startLow 0 true) readPort)) = some .commandWhileBusy := by decide
theorem test_command_in_done_tick :
    refusal (step (withCmd (inState .done 0 true) readPort)) = some .commandWhileBusy := by decide

/-- V52: a command in a reset tick is dropped, not refused. -/
theorem test_reset_drops_command :
    after (fun t => (t.st, t.inited, t.tmrRun, t.cnt))
      (step { inState .idle 7 true with inputs := [{ rst := true, cmd := readPort, line := true }] }) =
      some (.idle, false, false, 0) := by decide

/-! ### Start signal (V11, R130, R131) -/

theorem test_startLow_counts :
    after (fun t => (t.st, t.dly, t.out)) (step { inState .startLow 0 true with dly := 17998, out := false }) =
      some (.startLow, 17999, false) := by decide
theorem test_startLow_ends :
    after (fun t => (t.st, t.dly, t.out)) (step { inState .startLow 0 true with dly := 17999, out := false }) =
      some (.startRel, 17999, true) := by decide
theorem test_startRel :
    after (fun t => (t.st, t.dir, t.out, t.cnt)) (step { inState .startRel 1234 true with dir := .output }) =
      some (.ackLow1, .input, true, 0) := by decide

/-- A block whose START_LOW_TICKS is the longest of R8 and whose registers are the narrowest, in START_LOW. -/
def slowBlock : State :=
  { inState .startLow 0 true with
    params := { startLowTicks := 20000, cntW := 8, dlyW := 15, handleW := 1, tickNs := 1 }, dir := .output, out := false }

/-- R8, R130: START_LOW_TICKS = 20000 ends the pulse at DLY = 19999 and not at 17999. -/
theorem test_startLow_parameter :
    after (fun t => (t.st, t.dly)) (step { slowBlock with dly := 17999 }) = some (.startLow, 18000) ∧
    after (fun t => (t.st, t.dly, t.out)) (step { slowBlock with dly := 19999 }) =
      some (.startRel, 19999, true) := by decide
/-- R8, R204: CNT wraps at CNT_W bits, 8 here and 16 by default. -/
theorem test_counter_width :
    after (fun t => t.cnt) (step { slowBlock with cnt := 255 }) = some 0 ∧
    after (fun t => t.cnt) (step (inState .idle 255 true)) = some 256 ∧
    after (fun t => t.cnt) (step (inState .idle 65535 true)) = some 0 := by decide
/-- A reset keeps the parameters. -/
theorem test_reset_keeps_parameters :
    after (fun t => (t.params, t.st)) (step { slowBlock with inputs := [{ rst := true, cmd := readPort, line := true }] }) =
      some (slowBlock.params, .idle) := by decide

/-! ### Waits (V12, V13, V15, V16, V17) -/

/-- V15: the wanted level in the poll at CNT = 201 is accepted. -/
theorem test_ackLow1_last_poll :
    after (fun t => (t.st, t.cnt)) (step (inState .ackLow1 201 false)) = some (.ackHigh, 0) := by decide
/-- V16: the wrong level in the poll at CNT = 201 is a Timeout; CNT is 202 afterwards. -/
theorem test_ackLow1_timeout :
    after (fun t => (t.st, t.cnt, t.failed, t.rvalid, t.dir, t.out)) (step (inState .ackLow1 201 true)) =
      some (.timedout, 202, true, true, .input, true) := by decide
theorem test_ackHigh_success :
    after (fun t => (t.st, t.cnt)) (step (inState .ackHigh 0 true)) = some (.ackLow2, 0) := by decide
theorem test_ackHigh_stays :
    after (fun t => (t.st, t.cnt)) (step (inState .ackHigh 200 false)) = some (.ackHigh, 201) := by decide
theorem test_ackLow2_success :
    after (fun t => (t.st, t.cnt, t.bitIdx)) (step (inState .ackLow2 79 false)) = some (.bitRise, 0, 0) := by decide
theorem test_ackLow2_timeout :
    after (fun t => t.st) (step (inState .ackLow2 201 true)) = some .timedout := by decide

/-! ### Bit deserializer (V20, V14, R155) -/

theorem test_bitRise_success :
    after (fun t => (t.st, t.cnt)) (step (inState .bitRise 49 true)) = some (.bitHold, 0) := by decide
theorem test_bitRise_timeout :
    after (fun t => (t.st, t.bitIdx)) (step { inState .bitRise 201 false with bitIdx := 5 }) =
      some (.timedout, 5) := by decide
/-- The last tick of the delay reads nothing. -/
theorem test_bitHold_delays :
    after (fun t => (t.st, t.cnt, t.bitBuf[7])) (step { inState .bitHold 39 true with bitIdx := 7 }) =
      some (.bitHold, 40, false) := by decide
/-- CNT = 40 samples into cell BITIDX and no other. -/
theorem test_bitHold_samples :
    after (fun t => (t.st, t.cnt, t.bitBuf[6], t.bitBuf[7], t.bitBuf[8], t.bitIdx))
      (step { inState .bitHold 40 true with bitIdx := 7 }) = some (.bitFall, 0, false, true, false, 7) := by decide
theorem test_bitFall_next_slot :
    after (fun t => (t.st, t.bitIdx, t.cnt)) (step { inState .bitFall 3 false with bitIdx := 38 }) =
      some (.bitRise, 39, 0) := by decide
theorem test_bitFall_last_slot :
    after (fun t => (t.st, t.bitIdx)) (step { inState .bitFall 3 false with bitIdx := 39 }) =
      some (.decode, 39) := by decide

/-! ### Decoder and endings (V30, V33, V41) -/

theorem test_decode_F1 :
    after (fun t => ((t.humInt, t.humFrac, t.tmpInt, t.tmpFrac), (t.humX10, t.tmpX10), (t.failed, t.rvalid, t.st)))
      (step { inState .decode 0 true with bitBuf := slotsF1 }) =
      some ((60, 5, 25, 3), (605, 253), (false, true, .done)) := by decide
theorem test_decode_F3 :
    after (fun t => (t.humInt, t.tmpFrac, t.humX10, t.tmpX10)) (step { inState .decode 0 true with bitBuf := slotsF3 }) =
      some (255, 255, 2805, 2805) := by decide
theorem test_frame_F1 : frame slotsF1 = 0x3C0519035D#40 := by decide
theorem test_done :
    after (fun t => (t.st, t.cnt, t.rvalid)) (step { inState .done 1 true with rvalid := true }) =
      some (.idle, 2, true) := by decide
theorem test_timedout :
    after (fun t => (t.st, t.cnt, t.failed)) (step { inState .timedout 202 true with failed := true }) =
      some (.idle, 203, true) := by decide
/-- V41: the outputs in the TIMEDOUT tick. -/
theorem test_timedout_outputs :
    (fun o : Outputs => (o.done, o.busy, o.failed, o.lineOe))
      (State.outputs { inState .timedout 202 true with failed := true, rvalid := true }) =
      (true, true, true, false) := by decide

/-! ### Placing a table word, the script notation -/

theorem test_place_command :
    after (fun t => t.inited) (step (State.reset.withFetchWord 2 2)) = some true := by decide
theorem test_place_state_code :
    after (fun t => (t.st, t.dir)) (step (State.reset.withFetchWord 8 2)) = some (.ackLow1, .input) := by decide
/-- R98: "ticks not covered default to high". -/
theorem test_stimulus_levels :
    ([4, 5, 7, 8, 10, 99].map (Stimulus.levelAt ⟨5, [⟨false, some 3⟩, ⟨true, some 2⟩, ⟨false, none⟩]⟩)) =
      [true, false, false, true, false, false] := by decide

/-! ### Witnesses: states and operands that meet the hypotheses of each obligation -/

/-- A block in the middle of a read, at the last permitted poll of ACK_HIGH. -/
def midRead : State := inState .ackHigh 201 true

theorem midRead_inv : Inv midRead := by
  constructor <;> simp [midRead, inState, isReading, isWait, waitedLevel, Config.defaults, Config.Params.legal, handleFits]

theorem midRead_slotInv : SlotInv midRead := by
  constructor <;> simp [midRead, inState]

/-- A block in the DONE tick, with a result. -/
def ended : State := { inState .done 1 true with rvalid := true, bitIdx := 39 }

theorem ended_inv : Inv ended := by
  constructor <;> simp [ended, inState, isReading, isWait, waitedLevel, Config.defaults, Config.Params.legal, handleFits]

theorem witness_StateCodesDecode_reserved : 12 ≤ (12#4).toNat ∧ 12 ≤ (15#4).toNat := by decide
theorem witness_CanonicalWordsReencode :
    (Encoded.command (initPort 255 1 0)).wf = true ∧ decode (.command (initPort 255 1 0)) = .ok (.init 255 1 0) ∧
    (Encoded.stateCode 11#4).wf = true ∧ decode (.stateCode 11#4) = .ok .timedout := by decide
theorem witness_ResetTickGivesResetState :
    ({ midRead with inputs := [{ rst := true, cmd := readPort, line := false }] } : State).input.rst = true := by decide
theorem witness_StepRunsStateInstr :
    midRead.input.rst = false ∧ decode (.stateCode midRead.st.code) = .ok .ackHigh := by decide
theorem witness_StepRunsCommandInstr :
    (withCmd midRead readPort).input.rst = false ∧ decode (.command (withCmd midRead readPort).input.cmd) = .ok .read ∧
    decode (.command midRead.input.cmd) = .ok .nocmd := by decide
theorem witness_PlacedWordRuns : decodeTableWord 2 3 = some .read ∧ decodeTableWord 4 11 = some .timedout := by decide
theorem witness_IdleHolds : (inState .idle 65535 true).st = .idle ∧ (inState .idle 65535 true).input.cmd.valid = false := by
  decide
theorem witness_NocmdRunsSelected :
    ({ inState .bitHold 40 true with bitIdx := 39 } : State).input.cmd.valid = false ∧
    ({ inState .bitHold 40 true with bitIdx := 39 } : State).bitIdx.toNat ≤ 39 := by decide
theorem witness_InitAccepted :
    (Instr.init 255 0 7).wf State.reset.params = true ∧ State.reset.st = .idle ∧ State.reset.inited = false := by decide
theorem witness_ReadAccepted : (inState .idle 0 true).st = .idle ∧ (inState .idle 0 true).inited = true := by decide
theorem witness_CommandWhileBusyRefused :
    (withCmd midRead readPort).st ≠ .idle ∧ (withCmd midRead readPort).input.cmd.valid = true ∧
    (withCmd midRead readPort).input.rst = false := by decide
theorem witness_ReadBeforeInitRefused :
    (withCmd State.reset readPort).st = .idle ∧ (withCmd State.reset readPort).inited = false ∧
    (withCmd State.reset readPort).input.rst = false ∧
    decodeCommand (withCmd State.reset readPort).input.cmd = .read := by decide
theorem witness_RepeatedInitRefused :
    (withCmd (inState .idle 0 true) (initPort 5 5 5)).st = .idle ∧
    (withCmd (inState .idle 0 true) (initPort 5 5 5)).inited = true ∧
    (withCmd (inState .idle 0 true) (initPort 5 5 5)).input.rst = false ∧
    decodeCommand (withCmd (inState .idle 0 true) (initPort 5 5 5)).input.cmd = .init 5 5 5 := by decide
/-- The clause about `done` and a step. -/
theorem witness_OutputsShowState :
    ended.outputs.done = true ∧ ∃ t, step ended = .next t := ⟨by decide, _, rfl⟩
/-- START_LOW at its last tick, and one before it. -/
theorem witness_StartLowCounts :
    (∃ s : State, s.st = .startLow ∧ s.input.cmd.valid = false ∧ s.dly = s.params.startLowTicks - 1) ∧
    (∃ s : State, s.st = .startLow ∧ s.input.cmd.valid = false ∧ s.dly ≠ s.params.startLowTicks - 1) :=
  ⟨⟨{ inState .startLow 0 true with dly := 17999 }, by decide⟩, ⟨{ inState .startLow 0 true with dly := 17998 }, by decide⟩⟩
theorem witness_StartRelReleases : (inState .startRel 5 true).input.cmd.valid = false := by decide

/-- The three cases of a wait at their boundaries: the wanted level at CNT = 201, the other level at CNT = 200 and
at CNT = 201. -/
def WaitWitness (x : SeqState) (wanted : Level) : Prop :=
  ((inState x 201 wanted).st = x ∧ (inState x 201 wanted).input.cmd.valid = false ∧
    (inState x 201 wanted).input.line = wanted) ∧
  ((inState x 200 !wanted).input.cmd.valid = false ∧ (inState x 200 !wanted).input.line ≠ wanted ∧
    (inState x 200 !wanted).cnt ≤ 200) ∧
  ((inState x 201 !wanted).input.cmd.valid = false ∧ (inState x 201 !wanted).input.line ≠ wanted ∧
    200 < (inState x 201 !wanted).cnt)

theorem witness_AckLow1WaitsLow : WaitWitness .ackLow1 false := by unfold WaitWitness; decide
theorem witness_AckHighWaitsHigh : WaitWitness .ackHigh true := by unfold WaitWitness; decide
theorem witness_AckLow2WaitsLow : WaitWitness .ackLow2 false := by unfold WaitWitness; decide
theorem witness_BitRiseWaitsHigh : WaitWitness .bitRise true := by unfold WaitWitness; decide
theorem witness_BitFallEndsSlot : WaitWitness .bitFall false := by unfold WaitWitness; decide

theorem witness_BitHoldDelays :
    (inState .bitHold 39 true).st = .bitHold ∧ (inState .bitHold 39 true).input.cmd.valid = false ∧
    (inState .bitHold 39 true).cnt < 40 := by decide
theorem witness_BitHoldSamples :
    ∃ s : State, s.input.cmd.valid = false ∧ 40 ≤ s.cnt ∧ s.bitIdx.toNat ≤ 39 :=
  ⟨{ inState .bitHold 40 true with bitIdx := 39 }, by decide⟩
theorem witness_BitHoldFaultsOutsideSlots :
    ∃ s : State, s.input.cmd.valid = false ∧ 40 ≤ s.cnt ∧ 40 ≤ s.bitIdx.toNat :=
  ⟨{ inState .bitHold 40 true with bitIdx := 40 }, by decide⟩
theorem witness_DecodeWritesResult : (inState .decode 0 true).input.cmd.valid = false := by decide
theorem witness_EndingsReturnToIdle :
    (inState .done 1 true).input.cmd.valid = false ∧ (inState .timedout 202 true).input.cmd.valid = false := by decide
theorem witness_SlotWriteSetsOneCell : (39#6).toNat ≤ 39 ∧ (0#6).toNat ≤ 39 := by decide
theorem witness_ReadingsAreExactTenths :
    ∃ t, exec .decode { inState .decode 0 true with bitBuf := slotsF3 } = .next t := ⟨_, rfl⟩

/-- A tick without reset that answers a next state: the hypotheses of CounterFollowsTimerRule, StepFollowsEdgeList,
SlotLoopRunsInOrder, OnlyInitConfigures, StepKeepsParameters, SlotsWrittenOnlyByReadAndSample and PinWrittenOnlyByStartSignal, and with
`midRead_inv` and `midRead_slotInv` those of StepKeepsInv and StepKeepsSlotInv. -/
theorem witness_running_tick : midRead.input.rst = false ∧ ∃ t, step midRead = .next t := ⟨by decide, _, rfl⟩
theorem witness_SlotLoopRunsInOrder_clauses :
    after (fun t => t.st) (step (withCmd (inState .idle 0 true) readPort)) = some .startLow ∧
    after (fun t => t.st) (step { inState .bitFall 0 false with bitIdx := 39 }) = some .decode ∧
    after (fun t => t.bitIdx) (step { inState .bitFall 0 false with bitIdx := 38 }) = some 39 := by decide
theorem witness_StepKeepsInv : Inv midRead ∧ ∃ t, step midRead = .next t := ⟨midRead_inv, _, rfl⟩
theorem witness_StepKeepsSlotInv : Inv midRead ∧ SlotInv midRead ∧ ∃ t, step midRead = .next t :=
  ⟨midRead_inv, midRead_slotInv, _, rfl⟩
/-- BIT_FALL at the poll that times out, in a state that meets `Inv`. -/
theorem witness_TimeoutOnlyFromWaits_inv : Inv (inState .bitFall 201 true) := by
  constructor <;> simp [inState, isReading, isWait, waitedLevel, Config.defaults, Config.Params.legal, handleFits]
theorem witness_TimeoutOnlyFromWaits :
    (inState .bitFall 201 true).input.rst = false ∧ (inState .bitFall 201 true).input.cmd.valid = false ∧
    after (fun t => t.st) (step (inState .bitFall 201 true)) = some .timedout := by decide
theorem witness_ResultIsStable : ended.input.rst = false ∧ Inv ended ∧ ended.rvalid = true ∧ ended.st ≠ .decode ∧
    ∃ t, step ended = .next t ∧ t.st ≠ .timedout :=
  ⟨by decide, ended_inv, rfl, by decide, _, rfl, by decide⟩
theorem withCmd_midRead_inv : Inv (withCmd midRead readPort) := by
  constructor <;> simp [withCmd, midRead, inState, isReading, isWait, waitedLevel, Config.defaults,
    Config.Params.legal, handleFits]
theorem witness_OnlyMisuseIsRefused :
    Inv midRead ∧ hostObeys midRead = true ∧
    Inv (withCmd midRead readPort) ∧ hostObeys (withCmd midRead readPort) = false :=
  ⟨midRead_inv, by decide, withCmd_midRead_inv, by decide⟩
theorem witness_TrailerChangesNothing :
    ∃ b : Slots, (∀ i : Fin 40, i.val < 32 → slotRead b i = slotRead slotsF1 i) ∧ b ≠ slotsF1 :=
  ⟨slotsF1.set 39 false, by decide, by decide⟩
theorem witness_FreeRunningCounterUnobservable :
    isWait (inState .startLow 0 true).st = false ∧ (inState .startLow 0 true).st ≠ .bitHold := by decide
/-- The same wait in a block of the narrowest widths. -/
def narrow : State :=
  { midRead with params := { startLowTicks := 18000, cntW := 8, dlyW := 15, handleW := 1, tickNs := 1 }, cfgPin := 1 }

theorem witness_WidthsChangeNothing : Inv midRead ∧ Inv narrow ∧ OtherWidths midRead narrow ∧ midRead ≠ narrow :=
  ⟨midRead_inv, by constructor <;> simp [narrow, midRead, inState, isReading, isWait, waitedLevel, Config.defaults,
    Config.Params.legal, handleFits], ⟨narrow.params, 201, 0, 1, 0, rfl, fun _ => rfl, rfl⟩, by decide⟩
/-- An idle block with another history than `readNow`'s, in the same tick with the same inputs. -/
theorem witness_StepKeepsSameButHistory :
    ∃ s s' : State, SameButHistory s s' ∧ s.bitBuf ≠ s'.bitBuf ∧ s.cnt ≠ s'.cnt ∧ s.failed ≠ s'.failed ∧
      ∃ t t', step s = .next t ∧ step s' = .next t' ∧ t.st = .startLow := by
  refine ⟨withCmd (inState .idle 0 true) readPort,
    { withCmd (inState .idle 0 true) readPort with bitBuf := slotsF1, bitIdx := 18, cnt := 203, dly := 17999, failed := true },
    ?_, by decide, by decide, by decide, _, _, rfl, rfl, rfl⟩
  constructor <;> simp [withCmd, inState, isWait, waitedLevel]
/-- The last clause: a valid, good result. -/
theorem witness_StepKeepsSameButHistory_result : ended.rvalid = true ∧ ended.failed = false ∧ SameButHistory ended ended :=
  ⟨rfl, rfl, by constructor <;> simp⟩
theorem witness_LineIgnoredWhereNotRead :
    (inState .bitHold 39 true).inputs = [Input.level true] ∧ readsLine (inState .bitHold 39 true) = false := by decide
theorem witness_IgnoredPortBitsIgnored :
    (withCmd midRead readPort).inputs = [{ rst := false, cmd := readPort, line := true }] ∧
    readPort.valid = true ∧ readPort.op = true ∧ CommandPort.absent.valid = false := by decide
theorem witness_StartPulseHasItsLength :
    ∃ s : State, Inv s ∧ s.st = .startLow ∧ s.dly = 0 ∧ s.quietFor s.params.startLowTicks :=
  ⟨{ slowBlock with inputs := [] }, by constructor <;> simp [slowBlock, inState, isReading, isWait, waitedLevel,
    Config.defaults, Config.Params.legal, handleFits], rfl, rfl, State.quietFor_of_unscripted rfl _⟩

/-- A state whose next `n` ticks are quiet with level `v`. -/
def heldAt (x : SeqState) (n : Nat) (v : Level) : State := { inState x 0 v with inputs := List.replicate n (Input.level v) }

theorem heldAt_quiet (x : SeqState) (n : Nat) (v : Level) : (heldAt x n v).quietFor n := fun k hk => by
  simp [State.inputAt, heldAt, hk, Input.quiet, Input.level, CommandPort.absent]

theorem heldAt_lineAt (x : SeqState) (n : Nat) (v : Level) (k : Nat) (hk : k < n) : (heldAt x n v).lineAt k = v := by
  simp [State.lineAt, State.inputAt, heldAt, hk, Input.level]

theorem witness_WaitPollsAtMost202Ticks :
    ((heldAt .bitFall 202 true).params.legal = true ∧ waitedLevel (heldAt .bitFall 202 true).st = some false ∧ (heldAt .bitFall 202 true).tmrRun = true ∧
      (heldAt .bitFall 202 true).cnt = 0 ∧ (heldAt .bitFall 202 true).quietFor 202 ∧
      ∀ j < 202, (heldAt .bitFall 202 true).lineAt j ≠ false) ∧
    (waitedLevel (heldAt .bitFall 1 false).st = some false ∧ (heldAt .bitFall 1 false).quietFor 1 ∧
      (heldAt .bitFall 1 false).lineAt 0 = false) :=
  ⟨⟨by decide, rfl, rfl, rfl, heldAt_quiet _ _ _, fun j hj => by rw [heldAt_lineAt _ _ _ j hj]; decide⟩,
   ⟨rfl, heldAt_quiet _ _ _, heldAt_lineAt _ _ _ 0 (by decide)⟩⟩

/-- A state in a wait for low whose next `n` ticks are high and the tick after them low. -/
def lowAfter (n : Nat) : State :=
  { inState .ackLow1 0 true with inputs := List.replicate n (Input.level true) ++ [Input.level false] }

theorem lowAfter_inputAt (n k : Nat) (hk : k ≤ n) : (lowAfter n).inputAt k = Input.level (decide (k < n)) := by
  by_cases h : k < n
  · simp [State.inputAt, lowAfter, List.getElem?_append, h]
  · obtain rfl : k = n := by omega
    simp [State.inputAt, lowAfter]

/-- The last permitted poll, k = 201: the other level in polls 0 to 200, then the wanted one. -/
theorem witness_WaitPollsAtMost202Ticks_last :
    (lowAfter 201).params.legal = true ∧ waitedLevel (lowAfter 201).st = some false ∧ (lowAfter 201).tmrRun = true ∧ (lowAfter 201).cnt = 0 ∧
    (lowAfter 201).quietFor 202 ∧ (∀ j < 201, (lowAfter 201).lineAt j ≠ false) ∧ (lowAfter 201).lineAt 201 = false := by
  refine ⟨by decide, rfl, rfl, rfl, fun k hk => ?_, fun j hj => ?_, ?_⟩
  · rw [lowAfter_inputAt _ _ (by omega)]; rfl
  · simp [State.lineAt, lowAfter_inputAt 201 j (by omega), Input.level, hj]
  · simp [State.lineAt, lowAfter_inputAt 201 201 (by omega), Input.level]

theorem witness_SampleIs41TicksAfterRise :
    ∃ s : State, s.params.legal = true ∧ s.st = .bitRise ∧ s.tmrRun = true ∧ s.bitIdx.toNat ≤ 39 ∧ s.quietFor 42 ∧ s.lineAt 0 = true :=
  ⟨heldAt .bitRise 42 true, by decide, rfl, rfl, by decide, heldAt_quiet _ _ _, heldAt_lineAt _ _ _ 0 (by decide)⟩

/-- BIT_RISE of slot 0, forty pulses of 70 ticks to come. -/
def fortyPulses : State :=
  { inState .bitRise 0 true with
    inputs := (Vector.replicate 40 ((50, 70) : Nat × Nat)).toList.flatMap (fun p =>
        List.replicate p.1 (Input.level false) ++ List.replicate p.2 (Input.level true)) ++
      List.replicate 43 (Input.level false) ++ [] }

theorem witness_FortyPulsesAreDecoded :
    ∃ (s : State) (pulses : Vector (Nat × Nat) 40) (rest : List Input),
      s.params.legal = true ∧ s.st = .bitRise ∧ s.bitIdx = 0 ∧ s.cnt = 0 ∧ s.tmrRun = true ∧
      (∀ i : Fin 40, 43 ≤ pulses[i].1 ∧ pulses[i].1 ≤ 200 ∧ 1 ≤ pulses[i].2 ∧ pulses[i].2 ≤ 243) ∧
      s.inputs = pulses.toList.flatMap (fun p =>
          List.replicate p.1 (Input.level false) ++ List.replicate p.2 (Input.level true)) ++
        List.replicate 43 (Input.level false) ++ rest :=
  ⟨fortyPulses, Vector.replicate 40 (50, 70), [], by decide, rfl, rfl, rfl, rfl, by simp, rfl⟩

/-- READ accepted now, and nothing scripted after it: the ticks that follow are quiet. -/
def readNow : State := withCmd (inState .idle 0 true) readPort

theorem witness_EveryReadTerminates :
    readNow.params.legal = true ∧ readNow.st = .idle ∧ readNow.inited = true ∧ readNow.tmrRun = true ∧ readNow.input.rst = false ∧
    decodeCommand readNow.input.cmd = .read ∧
    ∀ k, 1 ≤ k → k < readNow.params.startLowTicks + 18410 → (readNow.inputAt k).quiet = true := by
  refine ⟨by decide, rfl, rfl, rfl, rfl, rfl, fun k h1 _ => ?_⟩
  obtain ⟨k, rfl⟩ : ∃ m, k = m + 1 := ⟨k - 1, by omega⟩
  simp [State.inputAt, readNow, withCmd, Input.unscripted, Input.quiet, CommandPort.absent]

theorem witness_ReadIsIndependentOfHistory :
    ∃ s s' : State, s.st = .idle ∧ s'.st = .idle ∧ s.inited = true ∧ s'.inited = true ∧
      s.tmrRun = true ∧ s'.tmrRun = true ∧ s.params = s'.params ∧ s.tick = s'.tick ∧ s.inputs = s'.inputs ∧
      s.input.rst = false ∧ decodeCommand s.input.cmd = .read ∧ s.bitBuf ≠ s'.bitBuf ∧ s.cnt ≠ s'.cnt :=
  ⟨readNow, { readNow with bitBuf := slotsF1, bitIdx := 18, cnt := 203, dly := 17999, failed := true, humInt := 7 },
    by decide⟩

end Sys2Proof.Tests
end

section
/-! The two readings of a tick agree (spec/00_scope.md R15). -/

namespace Sys2Proof.Machine

/-- In IDLE the micro-operation consumes the command: the tick is that of the command's own row (R15 (4)). -/
theorem exec_idle_command {s : State} (hs : s.st = .idle) : exec s.command.instr s = execIdle s := by
  cases hc : s.command <;> simp [Command.instr, exec, execIdle, execNocmd, selectedTick, execInit, execRead, busy, hs, hc]

/-- A command presented outside IDLE is refused when read from the command port too (R113). -/
theorem exec_command_of_busy {s : State} (hs : s.st ≠ .idle) (hc : s.command ≠ .absent) :
    exec s.command.instr s = .refused .commandWhileBusy := by
  have hb : busy s = true := by simpa [busy] using hs
  cases hk : s.command with
  | absent => exact absurd hk hc
  | init port pin tmr => simp [Command.instr, exec, execInit, hb]
  | read => simp [Command.instr, exec, execRead, hb]

/-- The tick read from ST and the tick read from the command port have one effect (R15). -/
theorem exec_st_instr_eq_exec_command_instr (s : State) : exec s.st.instr s = exec s.command.instr s := by
  by_cases hs : s.st = .idle
  · rw [exec_idle_command hs, hs]; rfl
  · by_cases hc : s.command = .absent
    · rw [exec_selected hc, hc]; rfl
    · rw [exec_busy_command hs hc, exec_command_of_busy hs hc]

/-- Settles O6: the code in ST decodes to the micro-operation that the step dispatches on. -/
theorem stepRunsStateInstr : Obligations.StepRunsStateInstr := by
  intro s i hr hd
  rw [decode_stateCode_code] at hd
  cases hd
  exact step_of_not_rst hr

/-- Settles O7: IDLE consumes the command, every other micro-operation runs alone or refuses it. -/
theorem stepRunsCommandInstr : Obligations.StepRunsCommandInstr := by
  intro s i hr hd
  cases hd
  rw [step_of_not_rst hr]
  exact exec_st_instr_eq_exec_command_instr s

end Sys2Proof.Machine
end

section
/-! Every tick keeps `Inv` (spec/10_state.md R42), field by field over the transitions of `Tick`. -/

namespace Sys2Proof.Machine

/-- A wait is neither IDLE nor one of the two micro-operations that drive the line. -/
theorem ne_of_waitedLevel {x : SeqState} {v : Level} (h : waitedLevel x = some v) :
    x ≠ .idle ∧ x ≠ .startLow ∧ x ≠ .startRel := by
  refine ⟨?_, ?_, ?_⟩ <;> rintro rfl <;> cases h

/-- The counter update of a wait or of the delay does not wrap, in a state that meets `Inv` (R9, R179). -/
theorem Inv.countedUp_eq {s : State} (hi : Inv s) (hs : isWait s.st = true ∨ s.st = .bitHold) :
    countedUp s = s.cnt + 1 := by
  have hne : s.st ≠ .idle := by rintro h; simp [h, isWait, waitedLevel] at hs
  have hc : s.cnt ≤ 201 := hs.elim hi.cnt_wait fun h => (hi.cnt_hold h).trans (by decide)
  exact countedUp_of_lt hi.legal (hi.busy_ready hne).2 hc

namespace Tick
variable {s t : State}

theorem params_eq (h : Tick s t) : t.params = s.params := by cases h <;> rfl

/-! ### The widths of the registers (R8, R22, R24, R25, R42 (b)) -/

theorem cnt_fits (h : Tick s t) (hc : s.cnt < 2 ^ s.params.cntW) : t.cnt < 2 ^ t.params.cntW := by
  have hup := countedUp_fits hc
  have h0 : 0 < 2 ^ s.params.cntW := Nat.two_pow_pos _
  cases h <;> assumption

theorem dly_fits (h : Tick s t) (hd : s.dly < 2 ^ s.params.dlyW) : t.dly < 2 ^ t.params.dlyW := by
  have h0 : 0 < 2 ^ s.params.dlyW := Nat.two_pow_pos _
  cases h
  case startCounts => exact wrap_lt _ _
  all_goals assumption

theorem handles_fit (h : Tick s t)
    (hh : handleFits s.params s.cfgPort = true ∧ handleFits s.params s.cfgPin = true ∧
      handleFits s.params s.cfgTmr = true) :
    handleFits t.params t.cfgPort = true ∧ handleFits t.params t.cfgPin = true ∧
      handleFits t.params t.cfgTmr = true := by
  cases h
  case reset => simp [handleFits]
  case init => simp [handleFits, wrap_lt]
  all_goals exact hh

/-- BIT_FALL increments the index only below 39 (R155). -/
theorem bitIdx_le (h : Tick s t) (hb : s.bitIdx.toNat ≤ 39) : t.bitIdx.toNat ≤ 39 := by
  have h0 : (0#6).toNat ≤ 39 := by decide
  cases h
  case slotEnds hx =>
    change (s.bitIdx + 1).toNat ≤ 39
    bv_omega
  all_goals assumption

/-! ### The pin (R42 (c), (d)) -/

theorem dir_iff (h : Tick s t) (hd : s.dir = .output ↔ s.st = .startLow ∨ s.st = .startRel) :
    t.dir = .output ↔ t.st = .startLow ∨ t.st = .startRel := by
  cases h
  case stays => exact hd
  case timesOut hs _ _ => simp [hd, ne_of_waitedLevel hs]
  all_goals simp_all

theorem out_iff (h : Tick s t) (ho : s.out = false ↔ s.st = .startLow) : t.out = false ↔ t.st = .startLow := by
  cases h
  case stays => exact ho
  case timesOut hs _ _ => simp [ho, ne_of_waitedLevel hs]
  all_goals simp_all

/-! ### INITED and TMR_RUN (R42 (e), (f)) -/

theorem inited_eq (h : Tick s t) (hi : s.inited = s.tmrRun) : t.inited = t.tmrRun := by
  cases h
  case reset => rfl
  case init => rfl
  all_goals exact hi

theorem busy_ready (h : Tick s t) (hi : s.inited = s.tmrRun) (hb : s.st ≠ .idle → s.inited = true ∧ s.tmrRun = true)
    (ht : t.st ≠ .idle) : t.inited = true ∧ t.tmrRun = true := by
  cases h
  case reset => exact absurd rfl ht
  case init => exact absurd rfl ht
  case read hr hc hs h1 => exact ⟨h1, hi ▸ h1⟩
  case stays hs _ _ => exact hb (ne_of_waitedLevel hs).1
  case timesOut hs _ _ => exact hb (ne_of_waitedLevel hs).1
  all_goals simp_all

/-! ### The result registers (R42 (g), (i), R178, R195) -/

theorem rvalid_reading (h : Tick s t) (hv : isReading s.st = true → s.rvalid = false)
    (ht : isReading t.st = true) : t.rvalid = false := by
  cases h
  case stays => exact hv ht
  all_goals simp_all [isReading, State.clearForRead]

theorem rvalid_ended (h : Tick s t) (hv : s.st = .done ∨ s.st = .timedout → s.rvalid = true)
    (ht : t.st = .done ∨ t.st = .timedout) : t.rvalid = true := by
  cases h
  case stays => exact hv ht
  all_goals simp_all

theorem idle_fresh (h : Tick s t) (hv : s.st = .done ∨ s.st = .timedout → s.rvalid = true)
    (hf : s.st = .idle → s.rvalid = false →
      s.failed = false ∧ s.humInt = 0 ∧ s.humFrac = 0 ∧ s.tmpInt = 0 ∧ s.tmpFrac = 0 ∧ s.humX10 = 0 ∧ s.tmpX10 = 0)
    (ht : t.st = .idle) (hr : t.rvalid = false) :
    t.failed = false ∧ t.humInt = 0 ∧ t.humFrac = 0 ∧ t.tmpInt = 0 ∧ t.tmpFrac = 0 ∧ t.humX10 = 0 ∧ t.tmpX10 = 0 := by
  cases h
  case idle hs => exact hf hs hr
  case init hs _ => exact hf hs hr
  case stays => exact hf ht hr
  all_goals simp_all

theorem humidity_eq (h : Tick s t)
    (hq : s.rvalid = true → s.failed = false → s.humX10.toNat = 10 * s.humInt.toNat + s.humFrac.toNat)
    (hr : t.rvalid = true) (hf : t.failed = false) : t.humX10.toNat = 10 * t.humInt.toNat + t.humFrac.toNat := by
  cases h
  case reset => rfl
  case read => cases hr
  case timesOut => cases hf
  case decode => exact tenths_toNat _ _
  all_goals exact hq hr hf

theorem temperature_eq (h : Tick s t)
    (hq : s.rvalid = true → s.failed = false → s.tmpX10.toNat = 10 * s.tmpInt.toNat + s.tmpFrac.toNat)
    (hr : t.rvalid = true) (hf : t.failed = false) : t.tmpX10.toNat = 10 * t.tmpInt.toNat + t.tmpFrac.toNat := by
  cases h
  case reset => rfl
  case read => cases hr
  case timesOut => cases hf
  case decode => exact tenths_toNat _ _
  all_goals exact hq hr hf

/-- DONE is entered by DECODE alone, which writes FAILED = 0. -/
theorem done_good (h : Tick s t) (hd : s.st = .done → s.failed = false) (ht : t.st = .done) : t.failed = false := by
  cases h
  case stays => exact hd ht
  case decode => rfl
  all_goals cases ht

/-- TIMEDOUT is entered by a Timeout alone, which writes FAILED = 1. -/
theorem timedout_bad (h : Tick s t) (hd : s.st = .timedout → s.failed = true) (ht : t.st = .timedout) :
    t.failed = true := by
  cases h
  case stays => exact hd ht
  case timesOut => rfl
  all_goals cases ht

/-! ### The bounds of the counters (R42 (h), R25) -/

/-- A wait is entered with CNT = 0 and stays while CNT is at most 200. -/
theorem cnt_wait (h : Tick s t) (ht : isWait t.st = true) : t.cnt ≤ 201 := by
  cases h
  case stays hk => exact (countedUp_le s).trans (Nat.succ_le_succ hk)
  case startRel | ackLow1 | ackHigh | ackLow2 | samples | slotEnds => exact Nat.zero_le _
  all_goals cases ht

/-- BIT_HOLD is entered with CNT = 0 and stays while CNT is below 40. -/
theorem cnt_hold (h : Tick s t) (ht : t.st = .bitHold) : t.cnt ≤ 40 := by
  cases h
  case bitRise => exact Nat.zero_le _
  case holds hk => exact (countedUp_le s).trans hk
  case stays hs _ _ => rw [show s.st = .bitHold from ht] at hs; cases hs
  all_goals cases ht

/-- DLY starts at 0 and is counted up below START_LOW_TICKS - 1 only, so it does not wrap (R179). -/
theorem dly_le (h : Tick s t) (hp : s.params.legal = true)
    (hd : s.st = .startLow → s.dly ≤ s.params.startLowTicks - 1) (ht : t.st = .startLow) :
    t.dly ≤ t.params.startLowTicks - 1 := by
  cases h
  case read => exact Nat.zero_le _
  case startCounts hs hne =>
    have hlt : s.dly < s.params.startLowTicks - 1 := lt_of_le_of_ne (hd hs) hne
    exact (wrap_dly hp hlt).trans_le hlt
  case stays => exact hd ht
  all_goals cases ht

end Tick

/-- A transition from a state that meets `Inv` leads to one that meets it. -/
theorem Inv.tick {s t : State} (hi : Inv s) (h : Tick s t) : Inv t where
  legal := h.params_eq ▸ hi.legal
  cnt_fits := h.cnt_fits hi.cnt_fits
  dly_fits := h.dly_fits hi.dly_fits
  handles_fit := h.handles_fit hi.handles_fit
  bitIdx_le := h.bitIdx_le hi.bitIdx_le
  dir_iff := h.dir_iff hi.dir_iff
  out_iff := h.out_iff hi.out_iff
  busy_ready := h.busy_ready hi.inited_eq hi.busy_ready
  inited_eq := h.inited_eq hi.inited_eq
  rvalid_reading := h.rvalid_reading hi.rvalid_reading
  rvalid_ended := h.rvalid_ended hi.rvalid_ended
  idle_fresh := h.idle_fresh hi.rvalid_ended hi.idle_fresh
  cnt_wait := h.cnt_wait
  cnt_hold := h.cnt_hold
  humidity_eq := h.humidity_eq hi.humidity_eq
  temperature_eq := h.temperature_eq hi.temperature_eq
  dly_le := h.dly_le hi.legal hi.dly_le
  done_good := h.done_good hi.done_good
  timedout_bad := h.timedout_bad hi.timedout_bad

/-- Every tick keeps `Inv` (R42). -/
theorem Inv.step {s t : State} (hi : Inv s) (h : step s = .next t) : Inv t := hi.tick (tick_of_step h)

end Sys2Proof.Machine
end

section
/-! The widths and the tick period change nothing a host can see (spec/00_scope.md R8, R9): `OtherWidths` is kept by
each operation that builds a tick, then by each tick. -/

namespace Sys2Proof.Machine

/-- START_LOW's last tick (R130). -/
theorem startLowTick_of_eq {s : State} (h : s.dly = s.params.startLowTicks - 1) :
    startLowTick s = .next ((s.advance.lineWrite true).goto .startRel) := by
  simp [startLowTick, startPulseEnds, h]

/-- START_LOW's other ticks count DLY up, which does not wrap in a legal block (R130, R179). -/
theorem startLowTick_of_lt {s : State} (hp : s.params.legal = true) (h : s.dly < s.params.startLowTicks - 1) :
    startLowTick s = .next ({ s.advance with dly := s.dly + 1 }.goto .startLow) := by
  simp [startLowTick, startPulseEnds, h.ne, wrap_dly hp h]

namespace OtherWidths
variable {s s' : State}

theorem tick_eq (h : OtherWidths s s') : s'.tick = s.tick := by
  obtain ⟨p, c, port, pin, tmr, hp, hc, rfl⟩ := h; rfl

theorem input_eq (h : OtherWidths s s') : s'.input = s.input := by
  obtain ⟨p, c, port, pin, tmr, hp, hc, rfl⟩ := h; rfl

theorem st_eq (h : OtherWidths s s') : s'.st = s.st := by
  obtain ⟨p, c, port, pin, tmr, hp, hc, rfl⟩ := h; rfl

theorem bitBuf_eq (h : OtherWidths s s') : s'.bitBuf = s.bitBuf := by
  obtain ⟨p, c, port, pin, tmr, hp, hc, rfl⟩ := h; rfl

theorem inited_eq (h : OtherWidths s s') : s'.inited = s.inited := by
  obtain ⟨p, c, port, pin, tmr, hp, hc, rfl⟩ := h; rfl

theorem outputs_eq (h : OtherWidths s s') : s'.outputs = s.outputs := by
  obtain ⟨p, c, port, pin, tmr, hp, hc, rfl⟩ := h; rfl

theorem cnt_eq (h : OtherWidths s s') (hs : isWait s.st = true ∨ s.st = .bitHold) : s'.cnt = s.cnt := by
  obtain ⟨p, c, port, pin, tmr, hp, hc, rfl⟩ := h; exact hc hs

/-! ### The operations of a tick -/

/-- Where CNT is read, the counter update wraps in neither block. -/
theorem advance (h : OtherWidths s s') (hi : Inv s) (hi' : Inv s') : OtherWidths s.advance s'.advance := by
  have hcnt : isWait s.st = true ∨ s.st = .bitHold → countedUp s' = countedUp s := fun hs => by
    rw [hi.countedUp_eq hs, hi'.countedUp_eq (h.st_eq.symm ▸ hs), h.cnt_eq hs]
  obtain ⟨p, c, port, pin, tmr, hp, hc, rfl⟩ := h
  exact ⟨p, _, port, pin, tmr, hp, hcnt, rfl⟩

theorem goto {x : SeqState} (h : OtherWidths s s') (hx : isWait x = true ∨ x = .bitHold → s'.cnt = s.cnt) :
    OtherWidths (s.goto x) (s'.goto x) := by
  obtain ⟨p, c, port, pin, tmr, hp, hc, rfl⟩ := h
  exact ⟨p, c, port, pin, tmr, hp, hx, rfl⟩

/-- CNT is forgotten on entry to a micro-operation that does not read it. -/
theorem goto_unread {x : SeqState} (h : OtherWidths s s') (hw : isWait x = false) (hx : x ≠ .bitHold) :
    OtherWidths (s.goto x) (s'.goto x) := h.goto (by simp [hw, hx])

theorem timerReset (h : OtherWidths s s') : OtherWidths s.timerReset s'.timerReset := by
  obtain ⟨p, c, port, pin, tmr, hp, hc, rfl⟩ := h
  exact ⟨p, 0, port, pin, tmr, hp, fun _ => rfl, rfl⟩

/-- After a `TimerReset()` CNT is 0 in both blocks, so any micro-operation may follow. -/
theorem timerReset_goto {x : SeqState} (h : OtherWidths s s') :
    OtherWidths (s.timerReset.goto x) (s'.timerReset.goto x) := h.timerReset.goto fun _ => rfl

theorem timerStart (h : OtherWidths s s') : OtherWidths s.timerStart s'.timerStart := by
  obtain ⟨p, c, port, pin, tmr, hp, hc, rfl⟩ := h
  exact ⟨p, c, port, pin, tmr, hp, hc, rfl⟩

theorem lineDir (h : OtherWidths s s') (d : PinMode) : OtherWidths (s.lineDir d) (s'.lineDir d) := by
  obtain ⟨p, c, port, pin, tmr, hp, hc, rfl⟩ := h
  exact ⟨p, c, port, pin, tmr, hp, hc, rfl⟩

theorem lineWrite (h : OtherWidths s s') (v : Level) : OtherWidths (s.lineWrite v) (s'.lineWrite v) := by
  obtain ⟨p, c, port, pin, tmr, hp, hc, rfl⟩ := h
  exact ⟨p, c, port, pin, tmr, hp, hc, rfl⟩

/-- The stored handles may differ, each cut to its own block's HANDLE_W bits. -/
theorem storeHandles (h : OtherWidths s s') (port pin tmr : Nat) :
    OtherWidths (s.storeHandles port pin tmr) (s'.storeHandles port pin tmr) := by
  obtain ⟨p, c, _, _, _, hp, hc, rfl⟩ := h
  exact ⟨p, c, _, _, _, hp, hc, rfl⟩

theorem clearForRead (h : OtherWidths s s') : OtherWidths s.clearForRead s'.clearForRead := by
  obtain ⟨p, c, port, pin, tmr, hp, hc, rfl⟩ := h
  exact ⟨p, c, port, pin, tmr, hp, hc, rfl⟩

theorem writeResult (h : OtherWidths s s') (b : Slots) : OtherWidths (s.writeResult b) (s'.writeResult b) := by
  obtain ⟨p, c, port, pin, tmr, hp, hc, rfl⟩ := h
  exact ⟨p, c, port, pin, tmr, hp, hc, rfl⟩

theorem raiseTimeout (h : OtherWidths s s') (n : Nat) : OtherWidths (s.raiseTimeout n) (s'.raiseTimeout n) := by
  obtain ⟨p, c, port, pin, tmr, hp, hc, rfl⟩ := h
  exact ⟨p, c, port, pin, tmr, hp, by simp [isWait, waitedLevel], rfl⟩

theorem resetTick (h : OtherWidths s s') : OtherWidths s.resetTick s'.resetTick := by
  obtain ⟨p, c, port, pin, tmr, hp, hc, rfl⟩ := h
  exact ⟨p, 0, 0, 0, 0, hp, fun _ => rfl, rfl⟩

/-- Setting aside the data a Timeout drew keeps the relation (R194). -/
theorem undrawn (h : OtherWidths s s') : OtherWidths s.undrawn s'.undrawn := by
  have hst := h.st_eq
  unfold State.undrawn
  rw [hst]
  split
  · obtain ⟨p, c, port, pin, tmr, hp, hc, rfl⟩ := h
    exact ⟨p, c, port, pin, tmr, hp, hc, rfl⟩
  · exact h

/-! ### The micro-operations and the admissions -/

/-- A poll has the same branch in both blocks: it reads the line, and CNT where the two agree (R132). -/
theorem waitFor {v : Level} {f : State → State} (h : OtherWidths s s') (hi : Inv s) (hi' : Inv s')
    (hw : isWait s.st = true) (hf : OtherWidths (f s.advance.timerReset) (f s'.advance.timerReset)) :
    OtherWidths (waitFor v f s) (waitFor v f s') := by
  have hl' : s'.lineRead = s.lineRead := congrArg Input.line h.input_eq
  have hc' : s'.cnt = s.cnt := h.cnt_eq (.inl hw)
  obtain ⟨hl, e⟩ | ⟨hl, hk, e⟩ | ⟨hl, hk, e⟩ := waitFor_cases v f s <;> rw [e]
  · rw [waitFor_success f (hl'.trans hl)]
    exact hf
  · rw [waitFor_timeout f (hl' ▸ hl) (hc' ▸ hk), h.tick_eq]
    exact (h.advance hi hi').raiseTimeout s.tick
  · rw [waitFor_stay f (hl' ▸ hl) (hc' ▸ hk)]
    exact h.advance hi hi'

/-- START_LOW ends in the same tick in both blocks, and DLY wraps in neither (R130, R179). -/
theorem startLowTick (h : OtherWidths s s') (hi : Inv s) (hi' : Inv s') (hs : s.st = .startLow) :
    outcomesAgree OtherWidths (startLowTick s) (startLowTick s') := by
  have ha := h.advance hi hi'
  obtain ⟨p, c, port, pin, tmr, hp, hc, rfl⟩ := h
  by_cases hd : s.dly = s.params.startLowTicks - 1
  · rw [startLowTick_of_eq hd, startLowTick_of_eq (hp ▸ hd)]
    exact (ha.lineWrite true).goto_unread rfl (by decide)
  · have hlt : s.dly < s.params.startLowTicks - 1 := lt_of_le_of_ne (hi.dly_le hs) hd
    rw [startLowTick_of_lt hi.legal hlt, startLowTick_of_lt hi'.legal (hp ▸ hlt)]
    exact ⟨p, _, port, pin, tmr, hp, by simp [isWait, waitedLevel], rfl⟩

/-- BIT_HOLD reads CNT, where the two agree, and samples into the same cell (R152, R153). -/
theorem bitHoldTick (h : OtherWidths s s') (hi : Inv s) (hi' : Inv s') (hs : s.st = .bitHold) :
    outcomesAgree OtherWidths (bitHoldTick s) (bitHoldTick s') := by
  have ha := h.advance hi hi'
  have hk : delayRunning s' = delayRunning s := by simp only [delayRunning, h.cnt_eq (.inr hs)]
  unfold Machine.bitHoldTick
  rw [hk]
  refine outcomesAgree_ite (ha.goto fun _ => ha.cnt_eq (.inr hs)) ?_
  obtain ⟨p, c, port, pin, tmr, hp, hc, rfl⟩ := h
  have hb : s.bitIdx.toNat < 40 := Nat.lt_succ_of_le hi.bitIdx_le
  simp only [sampleTick, slotWrite_of_lt hb]
  exact ⟨p, 0, port, pin, tmr, hp, fun _ => rfl, rfl⟩

/-- BIT_FALL's success tests an index that is the same in both blocks (R155). -/
theorem timerReset_endSlot (h : OtherWidths s s') : OtherWidths s.timerReset.endSlot s'.timerReset.endSlot := by
  obtain ⟨p, c, port, pin, tmr, hp, hc, rfl⟩ := h
  exact related_ite (c := lastSlot s = true) ⟨p, 0, port, pin, tmr, hp, fun _ => rfl, rfl⟩
    ⟨p, 0, port, pin, tmr, hp, fun _ => rfl, rfl⟩

theorem selectedTick (h : OtherWidths s s') (hi : Inv s) (hi' : Inv s') :
    outcomesAgree OtherWidths (selectedTick s) (selectedTick s') := by
  have ha := h.advance hi hi'
  unfold Machine.selectedTick
  rw [h.st_eq]
  cases hs : s.st
  case idle | done | timedout => exact ha.goto_unread rfl (by decide)
  case startLow => exact h.startLowTick hi hi' hs
  case startRel => exact (ha.lineDir _).timerReset_goto
  case ackLow1 | ackHigh | ackLow2 | bitRise => exact h.waitFor hi hi' (by rw [hs]; rfl) ha.timerReset_goto
  case bitHold => exact h.bitHoldTick hi hi' hs
  case bitFall => exact h.waitFor hi hi' (by rw [hs]; rfl) ha.timerReset_endSlot
  case decode =>
    unfold decodeTick
    rw [h.bitBuf_eq]
    exact (ha.writeResult _).goto_unread rfl (by decide)

theorem admitInit (h : OtherWidths s s') (hi : Inv s) (hi' : Inv s') (port pin tmr : Nat) :
    outcomesAgree OtherWidths (admitInit port pin tmr s) (admitInit port pin tmr s') := by
  unfold Machine.admitInit
  rw [h.inited_eq]
  exact outcomesAgree_ite rfl
    (((h.advance hi hi').storeHandles port pin tmr).timerStart.goto_unread rfl (by decide))

theorem admitRead (h : OtherWidths s s') (hi : Inv s) (hi' : Inv s') :
    outcomesAgree OtherWidths (admitRead s) (admitRead s') := by
  unfold Machine.admitRead
  rw [h.inited_eq]
  exact outcomesAgree_ite
    ((((h.advance hi hi').lineDir _).lineWrite _).clearForRead.goto_unread rfl (by decide)) rfl

/-- One tick of two blocks that differ in nothing a host can see: outcomes of one kind, related again. -/
theorem step (h : OtherWidths s s') (hi : Inv s) (hi' : Inv s') : outcomesAgree OtherWidths (step s) (step s') :=
  outcomesAgree_step h.input_eq h.st_eq h.resetTick (h.selectedTick hi hi') (h.admitInit hi hi') (h.admitRead hi hi')

end OtherWidths

/-- A relation on the next states may be strengthened by what the two ticks give of each. -/
theorem outcomesAgree_imp {R Q : State → State → Prop} {a b : Result} (h : outcomesAgree R a b)
    (hRQ : ∀ t u, a = .next t → b = .next u → R t u → Q t u) : outcomesAgree Q a b := by
  cases a with
  | next t =>
    cases b with
    | next u => exact hRQ t u rfl rfl h
    | fault r => exact h
    | refused r => exact h
  | fault r => cases b <;> exact h
  | refused r => cases b <;> exact h

/-- Settles O57: each tick keeps `OtherWidths`, and keeps `Inv` in each of the two blocks. -/
theorem widthsChangeNothing : Obligations.WidthsChangeNothing := by
  intro s s' hi hi' h
  exact ⟨h.outputs_eq, outcomesAgree_imp (h.step hi hi') fun t t' ht ht' hr => ⟨hi.step ht, hi'.step ht', hr.undrawn⟩⟩

end Sys2Proof.Machine
end

section
/-! What the transitions of `Tick` write: the edges of ST, BITIDX, the configuration, the pin (spec/10_state.md R21 to
R30, R38), and the invariants of R42 in the reset state. -/

namespace Sys2Proof.Machine

/-- Settles O43: the transitions of `Tick` keep each field of `Inv`. -/
theorem stepKeepsInv : Obligations.StepKeepsInv := fun _ _ hi h => hi.step h

/-- Settles O56: the parameters are kept by each transition. -/
theorem stepKeepsParameters : Obligations.StepKeepsParameters := fun _ _ h => step_next_params h

/-- A wait may stay in place or enter the Timeout (R38). -/
theorem edge_of_waitedLevel {x : SeqState} {v : Level} (h : waitedLevel x = some v) :
    edge x x = true ∧ edge x .timedout = true := by
  cases x
  case ackLow1 | ackHigh | ackLow2 | bitRise | bitFall => exact ⟨rfl, rfl⟩
  all_goals cases h

/-- A wait is neither the decoder's state nor an end of a read. -/
theorem ne_ending_of_waitedLevel {x : SeqState} {v : Level} (h : waitedLevel x = some v) :
    x ≠ .decode ∧ x ≠ .done ∧ x ≠ .timedout := by
  refine ⟨?_, ?_, ?_⟩ <;> rintro rfl <;> cases h

namespace Tick
variable {s t : State}

/-! ### ST and BITIDX (R26, R27, R38) -/

theorem edge_st (h : Tick s t) (hr : s.input.rst = false) : edge s.st t.st = true := by
  cases h
  case reset h1 => simp [hr] at h1
  case stays hs _ _ => exact (edge_of_waitedLevel hs).1
  case timesOut hs _ _ => exact (edge_of_waitedLevel hs).2
  all_goals simp_all [edge]

/-- The tick that ends a read is followed by IDLE (R178, R195). -/
theorem st_idle_of_ended (h : Tick s t) (hs : s.st = .done ∨ s.st = .timedout) : t.st = .idle := by
  cases h
  case reset => rfl
  case stays hw _ _ => simp [ne_ending_of_waitedLevel hw] at hs
  case timesOut hw _ _ => simp [ne_ending_of_waitedLevel hw] at hs
  all_goals simp_all

/-- IDLE is left by an accepted READ only. -/
theorem read_of_leaves_idle (h : Tick s t) (hs : s.st = .idle) (ht : t.st ≠ .idle) :
    s.command = .read ∧ s.inited = true := by
  cases h
  case read hr hc _ hi => exact ⟨hc, hi⟩
  case stays hw _ _ => exact absurd hs (ne_of_waitedLevel hw).1
  case timesOut hw _ _ => exact absurd hs (ne_of_waitedLevel hw).1
  all_goals simp_all

/-- DECODE is entered by the end of slot 39 only. -/
theorem bitIdx_of_enters_decode (h : Tick s t) (ht : t.st = .decode) : s.bitIdx = 39#6 ∧ t.bitIdx = 39#6 := by
  cases h
  case lastSlotEnds hx => exact ⟨hx, hx⟩
  case stays hw _ _ => exact absurd ht (ne_ending_of_waitedLevel hw).1
  all_goals cases ht

theorem bitIdx_written (h : Tick s t) (hr : s.input.rst = false) :
    t.bitIdx = s.bitIdx ∨ (s.st = .idle ∧ t.st = .startLow ∧ t.bitIdx = 0) ∨
    (s.st = .bitFall ∧ t.st = .bitRise ∧ t.bitIdx = s.bitIdx + 1) := by
  cases h
  case reset h1 => simp [hr] at h1
  case read hs _ => exact .inr (.inl ⟨hs, rfl, rfl⟩)
  case slotEnds hs _ _ => exact .inr (.inr ⟨hs, rfl, rfl⟩)
  all_goals exact .inl rfl

/-! ### The configuration and the pin (R21 to R23, R29, R30) -/

theorem configuration_written (h : Tick s t) (hr : s.input.rst = false) :
    (t.inited = s.inited ∧ t.tmrRun = s.tmrRun ∧
      t.cfgPort = s.cfgPort ∧ t.cfgPin = s.cfgPin ∧ t.cfgTmr = s.cfgTmr) ∨
    (s.st = .idle ∧ s.inited = false ∧ t.inited = true ∧ t.tmrRun = true ∧
      ∃ port pin tmr, s.command = .init port pin tmr ∧ t.cfgPort = wrap s.params.handleW port ∧
        t.cfgPin = wrap s.params.handleW pin ∧ t.cfgTmr = wrap s.params.handleW tmr) := by
  cases h
  case reset h1 => simp [hr] at h1
  case init port pin tmr _ hc hs hi => exact .inr ⟨hs, hi, rfl, rfl, port, pin, tmr, hc, rfl, rfl, rfl⟩
  all_goals exact .inl ⟨rfl, rfl, rfl, rfl, rfl⟩

theorem pin_written (h : Tick s t) (hr : s.input.rst = false) :
    (t.dir = s.dir ∧ t.out = s.out) ∨
    (s.st = .idle ∧ t.st = .startLow ∧ t.dir = .output ∧ t.out = false) ∨
    (s.st = .startLow ∧ t.st = .startRel ∧ t.dir = s.dir ∧ t.out = true) ∨
    (s.st = .startRel ∧ t.st = .ackLow1 ∧ t.dir = .input ∧ t.out = s.out) := by
  cases h
  case reset h1 => simp [hr] at h1
  case read hs _ => exact .inr (.inl ⟨hs, rfl, rfl, rfl⟩)
  case startEnds hs _ => exact .inr (.inr (.inl ⟨hs, rfl, rfl, rfl⟩))
  case startRel hs => exact .inr (.inr (.inr ⟨hs, rfl, rfl, rfl⟩))
  all_goals exact .inl ⟨rfl, rfl⟩

end Tick

/-- Settles O35: each transition is an edge of R38's list, a wait's stay and its Timeout among them. -/
theorem stepFollowsEdgeList : Obligations.StepFollowsEdgeList := fun _ _ hr h => (tick_of_step h).edge_st hr

/-- Settles O36: READ alone leaves IDLE, and BITIDX is written by READ and by the end of a slot alone. -/
theorem slotLoopRunsInOrder : Obligations.SlotLoopRunsInOrder := by
  intro s t hr h
  have ht := tick_of_step h
  exact ⟨ht.read_of_leaves_idle, ht.bitIdx_of_enters_decode, fun hne => (ht.bitIdx_written hr).resolve_left hne⟩

/-- Settles O37: of the transitions, INIT's alone writes the configuration. -/
theorem onlyInitConfigures : Obligations.OnlyInitConfigures := fun _ _ hr h =>
  (tick_of_step h).configuration_written hr

/-- Settles O40: of the transitions, READ's, START_LOW's last and START_REL's alone write the pin. -/
theorem pinWrittenOnlyByStartSignal : Obligations.PinWrittenOnlyByStartSignal := fun _ _ hr h =>
  (tick_of_step h).pin_written hr

/-! ### The output ports (R35) -/

theorem busy_iff (s : State) : busy s = true ↔ s.st ≠ .idle := by simp [busy]

theorem doneFlag_iff (s : State) : doneFlag s = true ↔ s.st = .done ∨ s.st = .timedout := by simp [doneFlag]

theorem PinMode.bit_iff (d : PinMode) : PinMode.bit d = true ↔ d = .output := by cases d <;> decide

/-- Settles O32: the ports are the registers, and DONE and TIMEDOUT, where `done` is 1, go to IDLE. -/
theorem outputsShowState : Obligations.OutputsShowState := by
  intro s
  refine ⟨PinMode.bit_iff s.dir, rfl, busy_iff s, doneFlag_iff s, rfl, rfl, rfl, rfl, rfl, rfl, rfl, rfl, rfl, ?_⟩
  intro t h hd
  have ht : t.st = .idle := (tick_of_step h).st_idle_of_ended ((doneFlag_iff s).1 hd)
  simp [State.outputs, doneFlag, busy, ht]

/-! ### The reset state (R220) -/

theorem Inv.resetWith {p : Config.Params} (hp : p.legal = true) : Inv (State.resetWith p) where
  legal := hp
  cnt_fits := Nat.two_pow_pos _
  dly_fits := Nat.two_pow_pos _
  handles_fit := by simp [handleFits]
  bitIdx_le := Nat.zero_le _
  dir_iff := by simp
  out_iff := by simp
  busy_ready := fun h => absurd rfl h
  inited_eq := rfl
  rvalid_reading := fun _ => rfl
  rvalid_ended := by simp
  idle_fresh := fun _ _ => ⟨rfl, rfl, rfl, rfl, rfl, rfl, rfl⟩
  cnt_wait := fun _ => Nat.zero_le _
  cnt_hold := fun _ => Nat.zero_le _
  humidity_eq := fun _ _ => rfl
  temperature_eq := fun _ _ => rfl
  dly_le := fun _ => Nat.zero_le _
  done_good := fun _ => rfl
  timedout_bad := by simp

theorem SlotInv.resetWith (p : Config.Params) : SlotInv (State.resetWith p) where
  preamble := by simp
  unsampled := by simp
  sampled := by simp
  complete := by simp

/-- Settles O42: the block of R8's defaults is one of the legal ones. -/
theorem resetStateMeetsInv : Obligations.ResetStateMeetsInv :=
  ⟨.resetWith defaults_legal, .resetWith _, fun p hp => ⟨.resetWith hp, .resetWith p⟩⟩

end Sys2Proof.Machine
end

section
/-! The handles select nothing, and CNT decides nothing outside the waits and the delay (spec/10_state.md R22, R24). -/

namespace Sys2Proof.Machine

/-- `s'` is `s` but for the handles (R22). -/
def OtherHandles (s s' : State) : Prop :=
  ∃ port pin tmr : Nat, s' = { s with cfgPort := port, cfgPin := pin, cfgTmr := tmr }

namespace OtherHandles
variable {s s' : State}

theorem st_eq (h : OtherHandles s s') : s'.st = s.st := by
  obtain ⟨port, pin, tmr, rfl⟩ := h; rfl

theorem advance_timerReset (h : OtherHandles s s') : OtherHandles s.advance.timerReset s'.advance.timerReset := by
  obtain ⟨port, pin, tmr, rfl⟩ := h; exact ⟨port, pin, tmr, rfl⟩

theorem goto (h : OtherHandles s s') (x : SeqState) : OtherHandles (s.goto x) (s'.goto x) := by
  obtain ⟨port, pin, tmr, rfl⟩ := h; exact ⟨port, pin, tmr, rfl⟩

/-- Setting aside the data a Timeout drew keeps the relation (R194). -/
theorem undrawn (h : OtherHandles s s') : OtherHandles s.undrawn s'.undrawn := by
  obtain ⟨port, pin, tmr, rfl⟩ := h
  exact related_ite (c := s.st = .timedout) ⟨port, pin, tmr, rfl⟩ ⟨port, pin, tmr, rfl⟩

/-- A poll tests the line and CNT, which are the same in both states (R132). -/
theorem waitFor {v : Level} {f : State → State} (h : OtherHandles s s')
    (hf : OtherHandles (f s.advance.timerReset) (f s'.advance.timerReset)) :
    OtherHandles (waitFor v f s) (waitFor v f s') := by
  obtain ⟨port, pin, tmr, rfl⟩ := h
  exact related_ite (c := s.lineRead = v) hf
    (related_ite (c := timeoutExceeded s = true) ⟨port, pin, tmr, rfl⟩ ⟨port, pin, tmr, rfl⟩)

theorem endSlot (h : OtherHandles s s') : OtherHandles s.endSlot s'.endSlot := by
  obtain ⟨port, pin, tmr, rfl⟩ := h
  exact related_ite (c := lastSlot s = true) ⟨port, pin, tmr, rfl⟩ ⟨port, pin, tmr, rfl⟩

/-- The sample writes, or faults on, the cell BITIDX of one buffer (R153). -/
theorem sampleTick (h : OtherHandles s s') : outcomesAgree OtherHandles (sampleTick s) (sampleTick s') := by
  obtain ⟨port, pin, tmr, rfl⟩ := h
  by_cases hb : s.bitIdx.toNat < 40
  · simp only [Machine.sampleTick, slotWrite_of_lt hb]
    exact ⟨port, pin, tmr, rfl⟩
  · simp only [Machine.sampleTick, slotWrite_of_ge (Nat.not_lt.1 hb)]
    exact rfl

theorem selectedTick (h : OtherHandles s s') : outcomesAgree OtherHandles (selectedTick s) (selectedTick s') := by
  unfold Machine.selectedTick
  rw [h.st_eq]
  cases s.st
  case startLow =>
    obtain ⟨port, pin, tmr, rfl⟩ := h
    exact outcomesAgree_ite (c := startPulseEnds s = true) ⟨port, pin, tmr, rfl⟩ ⟨port, pin, tmr, rfl⟩
  case ackLow1 | ackHigh | ackLow2 | bitRise => exact h.waitFor (h.advance_timerReset.goto _)
  case bitHold =>
    have hsample := h.sampleTick
    obtain ⟨port, pin, tmr, rfl⟩ := h
    exact outcomesAgree_ite (c := delayRunning s = true) ⟨port, pin, tmr, rfl⟩ hsample
  case bitFall => exact h.waitFor h.advance_timerReset.endSlot
  case idle | startRel | decode | done | timedout =>
    obtain ⟨port, pin, tmr, rfl⟩ := h
    exact ⟨port, pin, tmr, rfl⟩

/-- One tick of two states that differ in the handles only: outcomes of one kind, related again. -/
theorem step (h : OtherHandles s s') : outcomesAgree OtherHandles (step s) (step s') := by
  have hsel := h.selectedTick
  obtain ⟨port, pin, tmr, rfl⟩ := h
  refine outcomesAgree_step rfl rfl ⟨0, 0, 0, rfl⟩ hsel (fun a b c => ?_) ?_
  · exact outcomesAgree_ite (c := s.inited = true) rfl ⟨_, _, _, rfl⟩
  · exact outcomesAgree_ite (c := s.inited = true) ⟨port, pin, tmr, rfl⟩ rfl

end OtherHandles

/-- Settles O45: each tick keeps `OtherHandles`. -/
theorem handlesSelectNothing : Obligations.HandlesSelectNothing := fun _ port pin tmr =>
  outcomesAgree_imp (OtherHandles.step ⟨port, pin, tmr, rfl⟩) fun _ _ _ _ h => h.undrawn

/-- `s'` is `s` but for CNT (R24). -/
def OtherCnt (s s' : State) : Prop := ∃ d : Nat, s' = { s with cnt := d }

/-- The micro-operations that are neither a wait nor the delay make no test of CNT. -/
theorem OtherCnt.selectedTick {s s' : State} (h : OtherCnt s s') (hw : isWait s.st = false) (hh : s.st ≠ .bitHold) :
    outcomesAgree OtherCnt (selectedTick s) (selectedTick s') := by
  obtain ⟨c, rfl⟩ := h
  unfold Machine.selectedTick
  cases hs : s.st <;> rw [hs] at hw hh
  case startLow => exact outcomesAgree_ite (c := startPulseEnds s = true) ⟨_, rfl⟩ ⟨_, rfl⟩
  case idle | startRel | decode | done | timedout => exact ⟨_, rfl⟩
  case ackLow1 | ackHigh | ackLow2 | bitRise | bitFall => cases hw
  case bitHold => exact absurd rfl hh

/-- Settles O47: CNT enters the tick only through its own update. -/
theorem freeRunningCounterUnobservable : Obligations.FreeRunningCounterUnobservable := by
  intro s c hw hh
  have hsel := OtherCnt.selectedTick (s := s) ⟨c, rfl⟩ hw hh
  refine ⟨rfl, outcomesAgree_step rfl rfl ⟨0, rfl⟩ hsel (fun port pin tmr => ?_) ?_⟩
  · exact outcomesAgree_ite (R := OtherCnt) (c := s.inited = true) rfl ⟨_, rfl⟩
  · exact outcomesAgree_ite (R := OtherCnt) (c := s.inited = true) ⟨_, rfl⟩ rfl

end Sys2Proof.Machine
end

section
/-! The slot space (spec/20_memory.md R60 to R64), its writers and what it holds during a read (R62), and the ticks that
do not read the line (R67). -/

namespace Sys2Proof.Machine

/-! ### The cells and the frame -/

/-- Settles O28: below 40 the write succeeds, and it sets that cell alone. -/
theorem slotWriteSetsOneCell : Obligations.SlotWriteSetsOneCell := by
  intro b i v hi
  have hw : slotWrite b i v = some (b.set i.toNat v _) := slotWrite_of_lt (Nat.lt_succ_of_le hi)
  exact ⟨_, hw, (slotWrite_some hw).2⟩

/-- In the number that a list of bits spells, the first bit the most significant, bit k is the k-th bit from the
list's end. -/
theorem testBit_foldl_bits (l : List Bool) (k : Nat) :
    (l.foldl (fun acc (v : Bool) => 2 * acc + v.toNat) 0).testBit k = (l.reverse[k]?).getD false := by
  induction l using List.reverseRecOn generalizing k with
  | nil => simp
  | append_singleton l v ih =>
    rw [List.foldl_concat, ← Nat.bit_val, List.reverse_concat]
    cases k with
    | zero => simp
    | succ k => simpa [Nat.testBit_bit_succ] using ih k

/-- Settles O29: `frame` reads the cells as a binary number from cell 0 on, and cell i is the (39 - i)-th from the end. -/
theorem frameIsMostSignificantFirst : Obligations.FrameIsMostSignificantFirst := by
  intro b i
  have hk : 39 - i.val < 40 := by omega
  have hi : 39 - (39 - i.val) = i.val := by omega
  rw [frame, BitVec.getLsbD_ofNat, testBit_foldl_bits]
  simp [slotRead, hk, hi]

/-! ### BIT_HOLD -/

theorem bitHoldTick_of_lt {s : State} (hk : s.cnt < 40) : bitHoldTick s = .next (s.advance.goto .bitHold) := by
  simp [bitHoldTick, delayRunning, Config.sampleDelayTicks, hk]

theorem bitHoldTick_of_ge {s : State} (hk : 40 ≤ s.cnt) : bitHoldTick s = sampleTick s := by
  simp [bitHoldTick, delayRunning, Config.sampleDelayTicks, Nat.not_lt.2 hk]

theorem sampleTick_of_ge {s : State} (hb : 40 ≤ s.bitIdx.toNat) : sampleTick s = .fault .slotOutOfRange := by
  simp [sampleTick, slotWrite_of_ge hb]

/-- Settles O24: after the delay BIT_HOLD samples, and the sample finds no cell at BITIDX. -/
theorem bitHoldFaultsOutsideSlots : Obligations.BitHoldFaultsOutsideSlots := by
  intro s hc hk hb
  calc exec .bitHold s
      = refuseIfCommand s (bitHoldTick s) := rfl
    _ = bitHoldTick s := refuseIfCommand_of_absent (s.command_absent_iff.2 hc) _
    _ = sampleTick s := bitHoldTick_of_ge hk
    _ = .fault .slotOutOfRange := sampleTick_of_ge hb

namespace Tick
variable {s t : State}

/-! ### The writers of BITBUF and the fields of `SlotInv` (R62, R112, R159) -/

theorem bitBuf_written (h : Tick s t) (hr : s.input.rst = false) :
    t.bitBuf = s.bitBuf ∨
    (s.st = .idle ∧ t.st = .startLow ∧ ∀ i, slotRead t.bitBuf i = false) ∨
    (s.st = .bitHold ∧ t.st = .bitFall ∧
      ∀ i : Fin 40, i.val ≠ s.bitIdx.toNat → slotRead t.bitBuf i = slotRead s.bitBuf i) := by
  cases h
  case reset h1 => simp [hr] at h1
  case read hs _ => exact .inr (.inl ⟨hs, rfl, slotRead_slotsCleared⟩)
  case samples b _ _ hs _ hb =>
    exact .inr (.inr ⟨hs, rfl, fun i hi => ((slotWrite_some hb).2 i).trans (if_neg hi)⟩)
  all_goals exact .inl rfl

/-- READ clears BITIDX and the cells, and nothing before BIT_RISE writes either. -/
theorem slots_preamble (h : Tick s t) (hi : SlotInv s)
    (ht : t.st = .startLow ∨ t.st = .startRel ∨ t.st = .ackLow1 ∨ t.st = .ackHigh ∨ t.st = .ackLow2) :
    t.bitIdx = 0 ∧ ∀ i, slotRead t.bitBuf i = false := by
  cases h
  case read => exact ⟨rfl, slotRead_slotsCleared⟩
  case startCounts hs _ | startEnds hs _ | startRel hs | ackLow1 hs _ | ackHigh hs _ => exact hi.preamble (by simp [hs])
  case stays => exact hi.preamble ht
  all_goals simp at ht

/-- A slot below 39 ends with the cells above BITIDX still 0, which are the cells from the next BITIDX on. -/
theorem slots_unsampled (h : Tick s t) (hi : SlotInv s) (hb : s.bitIdx.toNat ≤ 39)
    (ht : t.st = .bitRise ∨ t.st = .bitHold) (i : Fin 40) (hge : t.bitIdx.toNat ≤ i) : slotRead t.bitBuf i = false := by
  cases h
  case ackLow2 hs _ => exact (hi.preamble (by simp [hs])).2 i
  case bitRise hs _ => exact hi.unsampled (.inl hs) i hge
  case holds hs _ => exact hi.unsampled (.inr hs) i hge
  case slotEnds hs _ hx =>
    have hge' : (s.bitIdx + 1).toNat ≤ i := hge
    exact hi.sampled hs i (by bv_omega)
  case stays => exact hi.unsampled ht i hge
  all_goals simp at ht

/-- The sample writes cell BITIDX and leaves the cells above it 0. -/
theorem slots_sampled (h : Tick s t) (hi : SlotInv s) (ht : t.st = .bitFall) (i : Fin 40)
    (hgt : t.bitIdx.toNat < i) : slotRead t.bitBuf i = false := by
  cases h
  case samples b _ _ hs _ hb =>
    have hkept : slotRead b i = slotRead s.bitBuf i := ((slotWrite_some hb).2 i).trans (if_neg (ne_of_gt hgt))
    exact hkept.trans (hi.unsampled (.inr hs) i hgt.le)
  case stays => exact hi.sampled ht i hgt
  all_goals cases ht

end Tick

/-- A transition from a state with BITIDX of at most 39 that meets `SlotInv` leads to one that meets it. -/
theorem SlotInv.tick {s t : State} (hi : SlotInv s) (hb : s.bitIdx.toNat ≤ 39) (h : Tick s t) : SlotInv t where
  preamble := h.slots_preamble hi
  unsampled := h.slots_unsampled hi hb
  sampled := h.slots_sampled hi
  complete := fun ht => (h.bitIdx_of_enters_decode ht).2

/-- Settles O39: of the transitions, READ's and the sample's alone write the cells. -/
theorem slotsWrittenOnlyByReadAndSample : Obligations.SlotsWrittenOnlyByReadAndSample := fun _ _ hr h =>
  (tick_of_step h).bitBuf_written hr

/-- Settles O44: the transitions keep each field of `SlotInv`; of `Inv` they need that BITIDX addresses a cell. -/
theorem stepKeepsSlotInv : Obligations.StepKeepsSlotInv := fun _ _ hi hslot h =>
  hslot.tick hi.bitIdx_le (tick_of_step h)

/-! ### The ticks that do not read the line (R67, R139, R152) -/

/-- The state with another level of the line in this tick. -/
def State.withLine (s : State) (v : Level) : State :=
  { s with inputs := { s.input with line := v } :: s.inputs.tail }

theorem State.withLine_of_cons {s : State} {i : Input} {rest : List Input} (h : s.inputs = i :: rest) (v : Level) :
    s.withLine v = { s with inputs := { i with line := v } :: rest } := by
  simp [State.withLine, State.input, h]

/-- The level is used up with the tick. -/
@[simp] theorem State.withLine_advance (s : State) (v : Level) : (s.withLine v).advance = s.advance := rfl

/-- The tick executes no `LineRead()`: ST is no wait, and in BIT_HOLD the delay still runs. -/
theorem readsLine_eq_false_iff (s : State) :
    readsLine s = false ↔ isWait s.st = false ∧ (s.st = .bitHold → s.cnt < 40) := by
  simp [readsLine]

/-- Of the micro-operations only the waits and the sample name `lineRead`; the delay of BIT_HOLD ends before it. -/
theorem exec_withLine {s : State} (v : Level) (h : readsLine s = false) :
    exec s.st.instr (s.withLine v) = exec s.st.instr s := by
  obtain ⟨hw, hk⟩ := (readsLine_eq_false_iff s).1 h
  cases hs : s.st <;> rw [hs] at hw hk
  case ackLow1 | ackHigh | ackLow2 | bitRise | bitFall => cases hw
  case bitHold =>
    have hlt : s.cnt < 40 := hk rfl
    have htick : bitHoldTick (s.withLine v) = bitHoldTick s := by
      rw [bitHoldTick_of_lt (s := s.withLine v) hlt, bitHoldTick_of_lt hlt, State.withLine_advance]
    exact congrArg (refuseIfCommand s) htick
  case idle | startLow | startRel | decode | done | timedout => rfl

/-- Settles O48: neither the reset nor the micro-operation of such a tick reads the level. -/
theorem lineIgnoredWhereNotRead : Obligations.LineIgnoredWhereNotRead := by
  intro s i rest v hin h
  rw [← State.withLine_of_cons hin]
  cases hr : s.input.rst
  · rw [step_of_not_rst hr, step_of_not_rst (s := s.withLine v) hr]
    exact exec_withLine v h
  · rw [step_of_rst hr, step_of_rst (s := s.withLine v) hr]
    rfl

end Sys2Proof.Machine
end

section
/-! Words and the command port (spec/30_encoding.md R80 to R84, R95): an instruction is a command's or a sequencer
state's, and it is encoded, placed and run accordingly. -/

namespace Sys2Proof

/-! ### The two kinds of instruction -/

/-- The rows of the opcode table: a code of the command port (R82) or a micro-operation (R83). -/
theorem Instr.eq_command_or_seqState (i : Instr) : (∃ c : Command, i = c.instr) ∨ ∃ x : SeqState, i = x.instr := by
  cases i
  case nocmd => exact .inl ⟨.absent, rfl⟩
  case init port pin tmr => exact .inl ⟨.init port pin tmr, rfl⟩
  case read => exact .inl ⟨.read, rfl⟩
  case idle => exact .inr ⟨.idle, rfl⟩
  case startLow => exact .inr ⟨.startLow, rfl⟩
  case startRel => exact .inr ⟨.startRel, rfl⟩
  case ackLow1 => exact .inr ⟨.ackLow1, rfl⟩
  case ackHigh => exact .inr ⟨.ackHigh, rfl⟩
  case ackLow2 => exact .inr ⟨.ackLow2, rfl⟩
  case bitRise => exact .inr ⟨.bitRise, rfl⟩
  case bitHold => exact .inr ⟨.bitHold, rfl⟩
  case bitFall => exact .inr ⟨.bitFall, rfl⟩
  case decode => exact .inr ⟨.decode, rfl⟩
  case done => exact .inr ⟨.done, rfl⟩
  case timedout => exact .inr ⟨.timedout, rfl⟩

/-- A command's encoding is a command port that presents it. -/
theorem encode_command_instr (c : Command) : ∃ p, encode c.instr = .command p ∧ decodeCommand p = c := by
  cases c <;> exact ⟨_, rfl, rfl⟩

/-! ### The command port (R82, R95) -/

theorem decodeCommand_of_read {p : CommandPort} (hv : p.valid = true) (ho : p.op = true) : decodeCommand p = .read := by
  simp [decodeCommand, hv, ho]

/-- Where only ignored bits differ, two command ports present one command (R95). -/
theorem decodeCommand_eq_of_ignored {p q : CommandPort}
    (h : (p.valid = false ∧ q.valid = false) ∨ (p.valid = true ∧ p.op = true ∧ q.valid = true ∧ q.op = true)) :
    decodeCommand q = decodeCommand p := by
  obtain ⟨hp, hq⟩ | ⟨hp, hpo, hq, hqo⟩ := h
  · rw [decodeCommand_of_not_valid hp, decodeCommand_of_not_valid hq]
  · rw [decodeCommand_of_read hp hpo, decodeCommand_of_read hq hqo]

/-- The encoder gives a canonical command port back: its ignored bits are the encoder's 0 (log 12). -/
theorem encode_decodeCommand_of_canonical {p : CommandPort} (h : p.canonical = true) :
    encode (decodeCommand p).instr = .command p := by
  obtain ⟨valid, op, port, pin, tmr⟩ := p
  cases valid
  case false => simp_all [CommandPort.canonical, decodeCommand, Command.instr, encode, CommandPort.absent]
  case true =>
    cases op
    case false => rfl
    case true => simp_all [CommandPort.canonical, decodeCommand, Command.instr, encode]

/-- A state code that decodes is the encoder's. -/
theorem encode_of_decode_stateCode {c : BitVec 4} {i : Instr} (h : decode (.stateCode c) = .ok i) :
    encode i = .stateCode c := by
  cases hc : decodeStateCode c with
  | error e => simp [decode, hc, Except.map] at h
  | ok x =>
    have hi : x.instr = i := by simpa [decode, hc, Except.map] using h
    rw [← hi, encode_seqState_instr, decodeStateCode_ok hc]

/-! ### The tables of R82 and R83 -/

/-- Settles O1: R82's three rows, and the table's two-bit words with the operand ports 0. -/
theorem commandPortDecodes : Obligations.CommandPortDecodes :=
  ⟨fun _ _ _ _ => ⟨rfl, rfl, rfl⟩, rfl, rfl, rfl, rfl⟩

/-- Settles O2: each code of R83's table is the code of its sequencer state; R84 rejects the rest. -/
theorem stateCodesDecode : Obligations.StateCodesDecode := by
  refine ⟨decode_stateCode_code .idle, decode_stateCode_code .startLow, decode_stateCode_code .startRel,
    decode_stateCode_code .ackLow1, decode_stateCode_code .ackHigh, decode_stateCode_code .ackLow2,
    decode_stateCode_code .bitRise, decode_stateCode_code .bitHold, decode_stateCode_code .bitFall,
    decode_stateCode_code .decode, decode_stateCode_code .done, decode_stateCode_code .timedout, fun c hc => ?_⟩
  simp [decode, decodeStateCode_reserved hc, Except.map]

/-- Settles O3: for each of the two kinds of instruction the decoder reads back what the encoder wrote. -/
theorem decodeEncodeAgree : Obligations.DecodeEncodeAgree := by
  intro i
  obtain ⟨c, rfl⟩ | ⟨x, rfl⟩ := i.eq_command_or_seqState
  · obtain ⟨p, he, hp⟩ := encode_command_instr c
    rw [he, decode_command, hp]
  · rw [encode_seqState_instr, decode_stateCode_code]

/-- Settles O4: for each of the two encoded forms. -/
theorem canonicalWordsReencode : Obligations.CanonicalWordsReencode := by
  intro e i hwf hd
  cases e with
  | command p => cases hd; exact encode_decodeCommand_of_canonical hwf
  | stateCode c => exact encode_of_decode_stateCode hd

end Sys2Proof

namespace Sys2Proof.Machine

/-! ### Placing an instruction (log 6) -/

/-- A placed command is the one presented in a tick without reset. -/
theorem place_command (s : State) (c : Command) :
    (s.place c.instr).input.rst = false ∧ (s.place c.instr).command = c := by
  cases c <;> exact ⟨rfl, rfl⟩

/-- A placed micro-operation is the one that ST selects in a tick without reset. -/
theorem place_seqState (s : State) (x : SeqState) :
    (s.place x.instr).input.rst = false ∧ (s.place x.instr).st = x := by
  cases x <;> exact ⟨rfl, rfl⟩

/-- The next step runs the placed instruction, read from the command port or from ST. -/
theorem step_place (s : State) (i : Instr) : step (s.place i) = exec i (s.place i) := by
  obtain ⟨c, rfl⟩ | ⟨x, rfl⟩ := i.eq_command_or_seqState
  · obtain ⟨hr, hc⟩ := place_command s c
    rw [step_of_not_rst hr, exec_st_instr_eq_exec_command_instr, hc]
  · obtain ⟨hr, hx⟩ := place_seqState s x
    rw [step_of_not_rst hr, hx]

theorem State.withFetchWord_of_some {nbits w : Nat} {i : Instr} (h : decodeTableWord nbits w = some i) (s : State) :
    s.withFetchWord nbits w = s.place i := by simp [State.withFetchWord, h]

/-- Settles O8: a word that decodes is placed as its instruction. -/
theorem placedWordRuns : Obligations.PlacedWordRuns := by
  intro s nbits w i h
  rw [s.withFetchWord_of_some h]
  exact step_place s i

/-! ### The ignored bits of the command port (R95, R200) -/

/-- The state with another command port in this tick. -/
def State.withPort (s : State) (p : CommandPort) : State :=
  { s with inputs := { s.input with cmd := p } :: s.inputs.tail }

theorem State.withPort_of_cons {s : State} {i : Input} {rest : List Input} (h : s.inputs = i :: rest) (p : CommandPort) :
    s.withPort p = { s with inputs := { i with cmd := p } :: rest } := by
  simp [State.withPort, State.input, h]

@[simp] theorem State.withPort_command (s : State) (p : CommandPort) : (s.withPort p).command = decodeCommand p := rfl

/-- A command's tick reads its operands from the instruction, not from the port, which is used up with the tick. -/
theorem exec_command_withPort (c : Command) (s : State) (p : CommandPort) :
    exec c.instr (s.withPort p) = exec c.instr s := by
  cases c <;> rfl

/-- A tick depends on the command port only through the command it presents, a reset tick not at all. -/
theorem step_withPort {s : State} {p : CommandPort} (h : s.input.rst = true ∨ decodeCommand p = s.command) :
    step (s.withPort p) = step s := by
  cases hr : s.input.rst
  · have hcmd : decodeCommand p = s.command := h.resolve_left (by simp [hr])
    rw [step_of_not_rst hr, step_of_not_rst (s := s.withPort p) hr, exec_st_instr_eq_exec_command_instr,
      exec_st_instr_eq_exec_command_instr, State.withPort_command, hcmd, exec_command_withPort]
  · rw [step_of_rst hr, step_of_rst (s := s.withPort p) hr]
    rfl

theorem outcomesAgree_self {R : State → State → Prop} (hR : ∀ t, R t t) (a : Result) : outcomesAgree R a a := by
  cases a with
  | next t => exact hR t
  | fault r => exact rfl
  | refused r => exact rfl

/-- Settles O49: ports that differ in ignored bits present one command, and then the two ticks are equal. -/
theorem ignoredPortBitsIgnored : Obligations.IgnoredPortBitsIgnored := by
  intro s i rest p hin h
  have hi : s.input = i := by simp [State.input, hin]
  have hsame : s.input.rst = true ∨ decodeCommand p = s.command := by
    rw [State.command, hi]
    exact h.imp_right decodeCommand_eq_of_ignored
  rw [← State.withPort_of_cons hin, step_withPort hsame]
  exact outcomesAgree_self (R := fun t t' => t'.undrawn = t.undrawn) (fun _ => rfl) _

end Sys2Proof.Machine
end

section
/-! The fields (spec/30_encoding.md R90, R91), and the trailer, slots 32 to 39, which no field reads (R93, R63). -/

namespace Sys2Proof.Machine

/-! ### The value of a field -/

/-- A bit appended on the right is the new least significant one. -/
theorem toNat_append_ofBool {w : Nat} (x : BitVec w) (v : Bool) : (x ++ BitVec.ofBool v).toNat = x.toNat * 2 + v.toNat :=
  BitVec.toNat_concat x v

/-- The cells are appended from the first received on, which is Horner's form of the sum (R91, R171). -/
theorem fieldValue_toNat (b : Slots) (f : DataField) :
    (fieldValue b f).toNat = ∑ k : Fin 8, (slotRead b (f.cell k)).toNat * 2 ^ (7 - k.val) := by
  simp only [fieldValue, toNat_append_ofBool, BitVec.toNat_ofBool, Fin.sum_univ_eight, Fin.coe_ofNat_eq_mod,
    Nat.reduceMod, Nat.reduceSub]
  ring

/-- Settles O30: the sum holds of each field, and R90's table gives the slot at which each begins. -/
theorem fieldIsBigEndianSum : Obligations.FieldIsBigEndianSum := fun b f =>
  ⟨fieldValue_toNat b f, fun _ => by cases f <;> rfl⟩

/-- The value of a field depends on its eight cells. -/
theorem fieldValue_congr {b c : Slots} {f : DataField} (h : ∀ k, slotRead c (f.cell k) = slotRead b (f.cell k)) :
    fieldValue c f = fieldValue b f := by
  simp only [fieldValue, h]

/-- The four fields end below slot 32 (R90). -/
theorem DataField.cell_lt (f : DataField) (k : Fin 8) : (f.cell k).val < 32 := by
  have hslot : f.slot ≤ 24 := by cases f <;> decide
  have hcell : (f.cell k).val = f.slot + k := rfl
  omega

/-! ### The trailer (R93) -/

/-- `c` is `b` but for the cells 32 to 39. -/
def OtherTrailer (b c : Slots) : Prop := ∀ i : Fin 40, i.val < 32 → slotRead c i = slotRead b i

namespace OtherTrailer
variable {b c : Slots}

theorem refl (b : Slots) : OtherTrailer b b := fun _ _ => rfl

/-- No field reaches the trailer. -/
theorem fieldValue_eq (h : OtherTrailer b c) (f : DataField) : fieldValue c f = fieldValue b f :=
  fieldValue_congr fun k => h _ (f.cell_lt k)

theorem set (h : OtherTrailer b c) {n : Nat} (hn : n < 40) (v : Level) : OtherTrailer (b.set n v hn) (c.set n v hn) := by
  intro i hi
  have hcell := h i hi
  simp only [slotRead, Fin.getElem_fin, Vector.getElem_set] at hcell ⊢
  rw [hcell]

end OtherTrailer

/-- `s'` is `s` but for the trailer (R93). -/
def SameButTrailer (s s' : State) : Prop := ∃ c : Slots, OtherTrailer s.bitBuf c ∧ s' = { s with bitBuf := c }

namespace SameButTrailer
variable {s s' : State}

theorem refl (s : State) : SameButTrailer s s := ⟨s.bitBuf, .refl _, rfl⟩

theorem st_eq (h : SameButTrailer s s') : s'.st = s.st := by
  obtain ⟨c, hc, rfl⟩ := h; rfl

theorem advance_timerReset (h : SameButTrailer s s') : SameButTrailer s.advance.timerReset s'.advance.timerReset := by
  obtain ⟨c, hc, rfl⟩ := h; exact ⟨c, hc, rfl⟩

theorem goto (h : SameButTrailer s s') (x : SeqState) : SameButTrailer (s.goto x) (s'.goto x) := by
  obtain ⟨c, hc, rfl⟩ := h; exact ⟨c, hc, rfl⟩

theorem endSlot (h : SameButTrailer s s') : SameButTrailer s.endSlot s'.endSlot := by
  obtain ⟨c, hc, rfl⟩ := h
  exact related_ite (c := lastSlot s = true) ⟨c, hc, rfl⟩ ⟨c, hc, rfl⟩

/-- A poll reads the line and CNT, and a Timeout draws by the tick: the same in both states (R132, R193). -/
theorem waitFor {v : Level} {f : State → State} (h : SameButTrailer s s')
    (hf : SameButTrailer (f s.advance.timerReset) (f s'.advance.timerReset)) :
    SameButTrailer (waitFor v f s) (waitFor v f s') := by
  obtain ⟨c, hc, rfl⟩ := h
  exact related_ite (c := s.lineRead = v) hf
    (related_ite (c := timeoutExceeded s = true) ⟨c, hc, rfl⟩ ⟨c, hc, rfl⟩)

/-- The sample writes the same level to the same cell of both buffers, or faults in both (R153). -/
theorem sampleTick (h : SameButTrailer s s') : outcomesAgree SameButTrailer (sampleTick s) (sampleTick s') := by
  obtain ⟨c, hc, rfl⟩ := h
  by_cases hb : s.bitIdx.toNat < 40
  · simp only [Machine.sampleTick, slotWrite_of_lt hb]
    exact ⟨_, hc.set hb _, rfl⟩
  · simp only [Machine.sampleTick, slotWrite_of_ge (Nat.not_lt.1 hb)]
    exact rfl

/-- DECODE reads the cells through the fields alone (R170, R63). -/
theorem decodeTick (h : SameButTrailer s s') : outcomesAgree SameButTrailer (decodeTick s) (decodeTick s') := by
  obtain ⟨c, hc, rfl⟩ := h
  exact ⟨c, hc, by simp only [State.writeResult, hc.fieldValue_eq]; rfl⟩

theorem selectedTick (h : SameButTrailer s s') : outcomesAgree SameButTrailer (selectedTick s) (selectedTick s') := by
  unfold Machine.selectedTick
  rw [h.st_eq]
  cases s.st
  case ackLow1 | ackHigh | ackLow2 | bitRise => exact h.waitFor (h.advance_timerReset.goto _)
  case bitFall => exact h.waitFor h.advance_timerReset.endSlot
  case decode => exact h.decodeTick
  case bitHold =>
    have hsample := h.sampleTick
    obtain ⟨c, hc, rfl⟩ := h
    exact outcomesAgree_ite (c := delayRunning s = true) ⟨c, hc, rfl⟩ hsample
  case startLow =>
    obtain ⟨c, hc, rfl⟩ := h
    exact outcomesAgree_ite (c := startPulseEnds s = true) ⟨c, hc, rfl⟩ ⟨c, hc, rfl⟩
  case idle | startRel | done | timedout =>
    obtain ⟨c, hc, rfl⟩ := h
    exact ⟨c, hc, rfl⟩

/-- One tick of two states that differ in the trailer only: outcomes of one kind, related again. A reset and READ
clear both buffers. -/
theorem step (h : SameButTrailer s s') : outcomesAgree SameButTrailer (step s) (step s') := by
  have hsel := h.selectedTick
  obtain ⟨c, hc, rfl⟩ := h
  refine outcomesAgree_step rfl rfl (.refl _) hsel (fun port pin tmr => ?_) ?_
  · exact outcomesAgree_ite (c := s.inited = true) rfl ⟨c, hc, rfl⟩
  · exact outcomesAgree_ite (c := s.inited = true) (.refl _) rfl

/-- Setting aside the data a Timeout drew keeps the two states equal but for the same trailer (R194). -/
theorem undrawn (h : SameButTrailer s s') :
    ∃ c : Slots, s'.undrawn = { s.undrawn with bitBuf := c } ∧ OtherTrailer s.bitBuf c := by
  obtain ⟨c, hc, rfl⟩ := h
  refine ⟨c, ?_, hc⟩
  simp only [State.undrawn]
  split <;> rfl

end SameButTrailer

/-- Settles O46: no port shows the cells, and each tick keeps `SameButTrailer`. -/
theorem trailerChangesNothing : Obligations.TrailerChangesNothing := fun _ b hb =>
  ⟨rfl, outcomesAgree_imp (SameButTrailer.step ⟨b, hb, rfl⟩) fun _ _ _ _ h => h.undrawn⟩

end Sys2Proof.Machine
end

section
/-! The commands (spec/40_commands.md R110 to R117): INIT and READ admitted and refused, the tick without a command, and
what keeps the result. -/

namespace Sys2Proof.Machine

/-! ### The result registers (R117) -/

/-- FAILED and the six data registers (R31 to R33). -/
def State.result (s : State) : Bool × Byte × Byte × Byte × Byte × Tenths × Tenths :=
  (s.failed, s.humInt, s.humFrac, s.tmpInt, s.tmpFrac, s.humX10, s.tmpX10)

theorem State.result_eq_iff (s t : State) :
    t.result = s.result ↔
      t.failed = s.failed ∧ t.humInt = s.humInt ∧ t.humFrac = s.humFrac ∧ t.tmpInt = s.tmpInt ∧
      t.tmpFrac = s.tmpFrac ∧ t.humX10 = s.humX10 ∧ t.tmpX10 = s.tmpX10 := by
  simp [State.result]

/-- A wait is part of a read without its result (R42 (g)). -/
theorem isReading_of_waitedLevel {x : SeqState} {v : Level} (h : waitedLevel x = some v) : isReading x = true := by
  cases x
  case ackLow1 | ackHigh | ackLow2 | bitRise | bitFall => rfl
  all_goals cases h

/-- Only DECODE and a Timeout write the result, both during a read. -/
theorem Tick.result_written {s t : State} (h : Tick s t) (hr : s.input.rst = false) :
    t.result = s.result ∨ (isReading s.st = true ∧ (s.st = .decode ∨ t.st = .timedout)) := by
  cases h
  case reset h1 => simp [hr] at h1
  case timesOut hw _ _ => exact .inr ⟨isReading_of_waitedLevel hw, .inr rfl⟩
  case decode hs => exact .inr ⟨by rw [hs]; rfl, .inl hs⟩
  all_goals exact .inl rfl

/-- Settles O38: RVALID is 0 during a read, and the writers of the result run during a read only. -/
theorem resultIsStable : Obligations.ResultIsStable := by
  intro s t hr h
  have hw := (tick_of_step h).result_written hr
  simp only [← State.result_eq_iff]
  refine ⟨fun hi hv => hw.resolve_right fun ⟨hread, _⟩ => ?_, fun hd ht => hw.resolve_right fun ⟨_, hwriter⟩ => ?_⟩
  · simp [hi.rvalid_reading hread] at hv
  · exact hwriter.elim hd ht

/-! ### The tick without a command (R110) -/

/-- INITED, TMR_RUN and the handles (R21 to R23). -/
def State.configuration (s : State) : Bool × Bool × Nat × Nat × Nat :=
  (s.inited, s.tmrRun, s.cfgPort, s.cfgPin, s.cfgTmr)

theorem State.configuration_eq_iff (s t : State) :
    t.configuration = s.configuration ↔
      t.inited = s.inited ∧ t.tmrRun = s.tmrRun ∧
      t.cfgPort = s.cfgPort ∧ t.cfgPin = s.cfgPin ∧ t.cfgTmr = s.cfgTmr := by
  simp [State.configuration]

theorem endSlot_configuration (s : State) : s.endSlot.configuration = s.configuration := by
  obtain ⟨_, e⟩ | ⟨_, e⟩ := endSlot_cases s <;> rw [e] <;> rfl

/-- A poll keeps the configuration if what its success does keeps it. -/
theorem waitFor_configuration (v : Level) {f : State → State} (s : State)
    (hf : ∀ u, (f u).configuration = u.configuration) : (waitFor v f s).configuration = s.configuration := by
  obtain ⟨_, e⟩ | ⟨_, _, e⟩ | ⟨_, _, e⟩ := waitFor_cases v f s <;> rw [e]
  · exact hf _
  · rfl
  · rfl

/-- Where BITIDX addresses a cell, every micro-operation alone answers a next state, and none writes the configuration. -/
theorem selectedTick_answers {s : State} (hb : s.bitIdx.toNat < 40) :
    ∃ t, selectedTick s = .next t ∧ t.configuration = s.configuration := by
  unfold selectedTick
  cases s.st
  case idle | startRel | decode | done | timedout => exact ⟨_, rfl, rfl⟩
  case ackLow1 | ackHigh | ackLow2 | bitRise => exact ⟨_, rfl, waitFor_configuration _ s fun _ => rfl⟩
  case bitFall => exact ⟨_, rfl, waitFor_configuration _ s endSlot_configuration⟩
  case startLow =>
    change ∃ t, startLowTick s = .next t ∧ _
    unfold startLowTick
    split <;> exact ⟨_, rfl, rfl⟩
  case bitHold =>
    change ∃ t, bitHoldTick s = .next t ∧ _
    unfold bitHoldTick sampleTick
    rw [slotWrite_of_lt hb]
    split <;> exact ⟨_, rfl, rfl⟩

/-- Settles O10: NOCMD's tick is the one of the micro-operation in ST, which can stop only where BITIDX addresses no
cell. -/
theorem nocmdRunsSelected : Obligations.NocmdRunsSelected := by
  intro s hc hb
  obtain ⟨t, ht, hconf⟩ := selectedTick_answers (s := s) (by omega)
  exact ⟨t, ht, (exec_selected (s.command_absent_iff.2 hc)).trans ht, (s.configuration_eq_iff t).1 hconf⟩

theorem State.goto_of_st {s : State} {x : SeqState} (h : s.st = x) : s.goto x = s := by subst h; rfl

/-- Settles O9: in IDLE the tick without a command is the default effect. -/
theorem idleHolds : Obligations.IdleHolds := by
  intro s hs hc i hi
  have hidle : s.st.instr = .idle := by rw [hs]; rfl
  have hsel : exec i s = selectedTick s := by
    rcases hi with rfl | rfl
    · rw [← hidle]; exact exec_selected (s.command_absent_iff.2 hc)
    · rfl
  calc exec i s
      = selectedTick s := hsel
    _ = .next (s.advance.goto .idle) := by simp only [selectedTick, hs]; rfl
    _ = .next s.advance := by rw [State.goto_of_st (x := .idle) (s := s.advance) hs]

/-! ### Admission of a command (R111, R112, R114, R115) -/

theorem exec_init_of_idle {s : State} (hs : s.st = .idle) (port pin tmr : Nat) :
    exec (.init port pin tmr) s = admitInit port pin tmr s := by simp [exec, execInit, busy, hs]

theorem exec_read_of_idle {s : State} (hs : s.st = .idle) : exec .read s = admitRead s := by
  simp [exec, execRead, busy, hs]

/-- Handles of HANDLE_W bits are stored whole. -/
theorem State.storeHandles_of_wf {s : State} {port pin tmr : Nat} (h : (Instr.init port pin tmr).wf s.params = true) :
    s.storeHandles port pin tmr = { s with cfgPort := port, cfgPin := pin, cfgTmr := tmr, inited := true } := by
  simp only [Instr.wf, Bool.and_eq_true] at h
  obtain ⟨⟨hport, hpin⟩, htmr⟩ := h
  simp only [State.storeHandles, wrap_of_handleFits, hport, hpin, htmr]

/-- Settles O11: IDLE admits the first INIT, and operands of the block fit the handles. -/
theorem initAccepted : Obligations.InitAccepted := by
  intro s port pin tmr hwf hs hi
  calc exec (.init port pin tmr) s
      = admitInit port pin tmr s := exec_init_of_idle hs port pin tmr
    _ = .next ((s.advance.storeHandles port pin tmr).timerStart.goto .idle) := by simp [admitInit, hi]
    _ = .next (s.advance.storeHandles port pin tmr).timerStart := by
      rw [State.goto_of_st (x := .idle) (s := (s.advance.storeHandles port pin tmr).timerStart) hs]
    _ = _ := by rw [State.storeHandles_of_wf (s := s.advance) hwf]; rfl

/-- Settles O12: IDLE admits READ once initialised. -/
theorem readAccepted : Obligations.ReadAccepted := by
  intro s hs hi
  calc exec .read s
      = admitRead s := exec_read_of_idle hs
    _ = .next ((((s.advance.lineDir .output).lineWrite false).clearForRead).goto .startLow) := by simp [admitRead, hi]

/-! ### Refusals (R113 to R115) -/

/-- A tick with a command on the port is that command's. -/
theorem step_of_command {s : State} {c : Command} (hr : s.input.rst = false) (hc : s.command = c) :
    step s = exec c.instr s := by
  rw [step_of_not_rst hr, exec_st_instr_eq_exec_command_instr, hc]

/-- Settles O14: READ's admission asks for INITED. -/
theorem readBeforeInitRefused : Obligations.ReadBeforeInitRefused := by
  intro s hs hi
  have hread : exec .read s = .refused .readBeforeInit := by simp [exec_read_of_idle hs, admitRead, hi]
  exact ⟨hread, fun hr hc => (step_of_command hr hc).trans hread⟩

/-- Settles O15: INIT's admission asks for INITED = 0. -/
theorem repeatedInitRefused : Obligations.RepeatedInitRefused := by
  intro s port pin tmr hs hi
  have hinit : exec (.init port pin tmr) s = .refused .repeatedInit := by simp [exec_init_of_idle hs, admitInit, hi]
  exact ⟨hinit, fun hr hc => (step_of_command hr hc).trans hinit⟩

/-- Settles O13: every micro-operation but IDLE refuses a command, and INIT and READ refuse a busy block. -/
theorem commandWhileBusyRefused : Obligations.CommandWhileBusyRefused := by
  intro s hs hv
  have hc : s.command ≠ .absent := by simp [s.command_absent_iff, hv]
  have hbusy : busy s = true := (busy_iff s).2 hs
  have hst : exec s.st.instr s = .refused .commandWhileBusy := exec_busy_command hs hc
  refine ⟨fun hr => (step_of_not_rst hr).trans hst, hst, ?_, fun port pin tmr => ?_⟩
  · simp [exec, execRead, hbusy]
  · simp [exec, execInit, hbusy]

end Sys2Proof.Machine
end

section
/-! The start signal and the waits (spec/41_start_and_handshake.md R130 to R138): their ticks, and the runs through them. -/

namespace Sys2Proof.Machine

/-! ### Runs -/

theorem run_succ_next {n : Nat} {s t : State} (h : run (n + 1) s = .next t) :
    ∃ u, step s = .next u ∧ run n u = .next t := by
  simp only [run] at h
  cases hs : step s with
  | next u => rw [hs] at h; exact ⟨u, rfl, h⟩
  | fault r => rw [hs] at h; cases h
  | refused r => rw [hs] at h; cases h

/-- One more tick at the end of a run. -/
theorem run_succ_of_run {n : Nat} {s t : State} (h : run n s = .next t) : run (n + 1) s = step t := by
  rw [run_add h 1, run]
  cases step t <;> rfl

/-- What every tick keeps, every run keeps. -/
theorem run_keeps {P : State → Prop} (hP : ∀ s t, P s → step s = .next t → P t) {n : Nat} {s t : State}
    (h : run n s = .next t) (hs : P s) : P t := by
  induction n generalizing s with
  | zero => cases h; exact hs
  | succ n ih =>
    obtain ⟨u, hu, ht⟩ := run_succ_next h
    exact ih ht (hP s u hs hu)

theorem Inv.run {n : Nat} {s t : State} (hi : Inv s) (h : run n s = .next t) : Inv t :=
  run_keeps (fun _ _ => Inv.step) h hi

theorem run_next_params {n : Nat} {s t : State} (h : run n s = .next t) : t.params = s.params :=
  run_keeps (P := fun u => u.params = s.params) (fun _ _ hu hstep => (step_next_params hstep).trans hu) h rfl

/-- The inputs after `n` ticks are the inputs from the n-th tick on. -/
theorem inputAt_of_run {n : Nat} {s t : State} (h : run n s = .next t) (k : Nat) : t.inputAt k = s.inputAt (n + k) := by
  induction n generalizing s with
  | zero => cases h; rw [Nat.zero_add]
  | succ n ih =>
    obtain ⟨u, hu, ht⟩ := run_succ_next h
    obtain ⟨htick, hinputs⟩ := step_next_clock hu
    rw [ih ht, inputAt_of_advanced htick hinputs, Nat.succ_add]

theorem lineRead_of_run {n : Nat} {s t : State} (h : run n s = .next t) : t.lineRead = s.lineAt n := by
  rw [← t.lineAt_zero, State.lineAt, inputAt_of_run h]; rfl

/-- In a quiet tick the micro-operation in ST runs alone. -/
theorem step_of_run_of_quiet {n m : Nat} {s t : State} (h : run n s = .next t) (hq : s.quietFor m) (hn : n < m) :
    step t = selectedTick t := by
  have hquiet : t.quietFor (0 + 1) := fun k hk => by rw [inputAt_of_run h]; exact hq _ (by omega)
  obtain ⟨hr, hv⟩ := State.input_of_quietFor hquiet
  rw [step_of_not_rst hr, exec_selected (t.command_absent_iff.2 hv)]

/-! ### START_LOW and START_REL (R130, R131) -/

theorem startLowTick_of_ne {s : State} (h : s.dly ≠ s.params.startLowTicks - 1) :
    startLowTick s = .next ({ s.advance with dly := wrap s.params.dlyW (s.dly + 1) }.goto .startLow) := by
  simp [startLowTick, startPulseEnds, h]

/-- Settles O16: START_LOW alone in its tick, at the end of the pulse and before it. -/
theorem startLowCounts : Obligations.StartLowCounts := by
  intro s hs hc
  have hexec : exec .startLow s = startLowTick s := refuseIfCommand_of_absent (s.command_absent_iff.2 hc) _
  rw [hexec]
  refine ⟨startLowTick_of_eq, fun hd => ?_⟩
  rw [startLowTick_of_ne hd, ← hs]
  rfl

/-- Settles O17: START_REL alone in its tick writes DIR, CNT and ST. -/
theorem startRelReleases : Obligations.StartRelReleases := fun s hc =>
  refuseIfCommand_of_absent (s.command_absent_iff.2 hc) (startRelTick s)

/-- DLY counts the ticks of the start pulse. -/
theorem run_startLow_counts {s : State} (hp : s.params.legal = true) (hs : s.st = .startLow) (hd : s.dly = 0) {k : Nat}
    (hk : k < s.params.startLowTicks) (hq : s.quietFor k) :
    ∃ t, run k s = .next t ∧ t.st = .startLow ∧ t.dly = k := by
  induction k with
  | zero => exact ⟨s, rfl, hs, hd⟩
  | succ k ih =>
    obtain ⟨t, hrun, hst, hdly⟩ := ih (by omega) fun j hj => hq j (by omega)
    have hparams := run_next_params hrun
    have hlt : t.dly < t.params.startLowTicks - 1 := by rw [hdly, hparams]; omega
    refine ⟨{ t.advance with dly := t.dly + 1 }.goto .startLow, ?_, rfl, congrArg (· + 1) hdly⟩
    calc run (k + 1) s
        = step t := run_succ_of_run hrun
      _ = selectedTick t := step_of_run_of_quiet hrun hq (Nat.lt_succ_self k)
      _ = startLowTick t := by rw [selectedTick, hst]
      _ = _ := startLowTick_of_lt (by rwa [hparams]) hlt

/-- Settles O50: `run_startLow_counts` counts to the last tick of the pulse; `Inv` says what START_LOW and START_REL drive. -/
theorem startPulseHasItsLength : Obligations.StartPulseHasItsLength := by
  intro s hi hs hd hq
  have hpulse : ∀ k < s.params.startLowTicks, ∃ t, run k s = .next t ∧ t.st = .startLow ∧ t.dly = k :=
    fun k hk => run_startLow_counts hi.legal hs hd hk fun j hj => hq j (hj.trans hk)
  refine ⟨fun k hk => ?_, ?_⟩
  · obtain ⟨t, hrun, hst, hdly⟩ := hpulse k hk
    have ht := hi.run hrun
    exact ⟨t, hrun, hst, hdly, ht.dir_iff.2 (.inl hst), ht.out_iff.2 hst⟩
  · have hpos : s.params.startLowTicks ≠ 0 := by have := legal_startLowTicks hi.legal; omega
    obtain ⟨n, hn⟩ := Nat.exists_eq_succ_of_ne_zero hpos
    obtain ⟨t, hrun, hst, hdly⟩ := hpulse n (by omega)
    have hend : t.dly = t.params.startLowTicks - 1 := by rw [hdly, run_next_params hrun, hn]; rfl
    refine ⟨(t.advance.lineWrite true).goto .startRel, ?_, rfl, (hi.run hrun).dir_iff.2 (.inl hst), rfl⟩
    calc run s.params.startLowTicks s
        = step t := by rw [hn, run_succ_of_run hrun]
      _ = selectedTick t := step_of_run_of_quiet hrun hq (by omega)
      _ = startLowTick t := by rw [selectedTick, hst]
      _ = _ := startLowTick_of_eq hend

/-! ### The tick of a wait (R132, R134 to R136, R151, R154, R155) -/

/-- What a successful poll of the wait in ST does after its `TimerReset()` (R132, R155). -/
def State.succeedWait (s : State) : State := if s.st = .bitFall then s.endSlot else s.goto (waitSuccessor s)

theorem State.succeedWait_of_bitFall {s : State} (h : s.st = .bitFall) : s.succeedWait = s.endSlot := if_pos h

theorem State.succeedWait_of_ne {s : State} (h : s.st ≠ .bitFall) : s.succeedWait = s.goto (waitSuccessor s) := if_neg h

@[simp] theorem State.succeedWait_st (s : State) : s.succeedWait.st = waitSuccessor s := by
  by_cases h : s.st = .bitFall
  · rw [State.succeedWait_of_bitFall h]
    obtain ⟨hx, e⟩ | ⟨hx, e⟩ := endSlot_cases s <;> rw [e] <;> simp [waitSuccessor, h, hx]
  · rw [State.succeedWait_of_ne h, State.goto_st]

@[simp] theorem State.succeedWait_cnt (s : State) : s.succeedWait.cnt = s.cnt := by
  by_cases h : s.st = .bitFall
  · rw [State.succeedWait_of_bitFall h]
    obtain ⟨_, e⟩ | ⟨_, e⟩ := endSlot_cases s <;> rw [e] <;> rfl
  · rw [State.succeedWait_of_ne h, State.goto_cnt]

/-- A poll applies its success to one state only. -/
theorem waitFor_congr {v : Level} {f g : State → State} {s : State}
    (h : f s.advance.timerReset = g s.advance.timerReset) : waitFor v f s = waitFor v g s := by simp only [waitFor, h]

/-- The five waits are polls for their level with the success of their own. -/
theorem selectedTick_of_waitedLevel {s : State} {v : Level} (h : waitedLevel s.st = some v) :
    selectedTick s = .next (waitFor v State.succeedWait s) := by
  unfold selectedTick
  cases hs : s.st <;> rw [hs] at h <;> cases h
  case ackLow1 | ackHigh | ackLow2 | bitRise | bitFall =>
    exact congrArg Host.Outcome.next (waitFor_congr (by simp [State.succeedWait, waitSuccessor, hs]))

/-- R132, from what the success of the wait does. -/
theorem waitMeaning_of_waitedLevel {x : SeqState} {v : Level} {f : State → State} (hw : waitedLevel x = some v)
    (hf : ∀ s, s.st = x →
      s.advance.timerReset.succeedWait = { f s with cnt := 0, tick := s.tick + 1, inputs := s.inputs.tail }) :
    WaitMeaning x.instr x v f := by
  rintro s rfl hc
  rw [exec_selected (s.command_absent_iff.2 hc), selectedTick_of_waitedLevel hw]
  refine ⟨fun hl => ?_, fun hl hk => ?_, fun hl hk => ⟨_, rfl, ?_⟩⟩
  · rw [waitFor_success _ hl, hf s rfl]
  · rw [waitFor_stay _ hl hk]; rfl
  · rw [waitFor_timeout _ hl hk]; exact timeoutEntered_raiseTimeout s

/-- Outside BIT_FALL a success writes ST alone: the wait is `WAIT(v, next)`. -/
theorem waitMeaning_goto {x next : SeqState} {v : Level} (hw : waitedLevel x = some v) (hx : x ≠ .bitFall)
    (hn : ∀ s : State, s.st = x → waitSuccessor s = next) :
    WaitMeaning x.instr x v (fun s => { s with st := next }) :=
  waitMeaning_of_waitedLevel hw fun s hs => by
    have hst : s.advance.timerReset.st = x := hs
    rw [State.succeedWait_of_ne (hst.trans_ne hx), hn _ hst]
    rfl

/-- Settles O18: ACK_LOW1 waits for 0 and goes to ACK_HIGH. -/
theorem ackLow1WaitsLow : Obligations.AckLow1WaitsLow :=
  waitMeaning_goto (x := .ackLow1) rfl (by decide) fun s hs => by rw [waitSuccessor, hs]

/-- Settles O19: ACK_HIGH waits for 1 and goes to ACK_LOW2. -/
theorem ackHighWaitsHigh : Obligations.AckHighWaitsHigh :=
  waitMeaning_goto (x := .ackHigh) rfl (by decide) fun s hs => by rw [waitSuccessor, hs]

/-- Settles O20: ACK_LOW2 waits for 0 and goes to BIT_RISE. -/
theorem ackLow2WaitsLow : Obligations.AckLow2WaitsLow :=
  waitMeaning_goto (x := .ackLow2) rfl (by decide) fun s hs => by rw [waitSuccessor, hs]

/-! ### The polls of a wait (R137, R138) -/

/-- `s` after `n` ticks that count CNT up, without wrapping, and write nothing else. -/
def State.countedFor (s : State) (n : Nat) : State :=
  { s with cnt := s.cnt + n, tick := s.tick + n, inputs := s.inputs.drop n }

@[simp] theorem State.countedFor_zero (s : State) : s.countedFor 0 = s := rfl

/-- In a wait or the delay, one more tick of the default effect. -/
theorem State.countedFor_advance {s : State} {n : Nat} (hp : s.params.legal = true) (ht : s.tmrRun = true)
    (hc : s.cnt + n ≤ 201) : (s.countedFor n).advance = s.countedFor (n + 1) := by
  have hup : countedUp (s.countedFor n) = s.cnt + (n + 1) := countedUp_of_lt (s := s.countedFor n) hp ht hc
  simp only [State.advance, hup]
  simp [State.countedFor, Nat.add_assoc]

/-- A quiet tick of a wait at the end of a run is its poll. -/
theorem run_succ_of_wait {n m : Nat} {s t : State} {v : Level} (h : run n s = .next t) (hq : s.quietFor m)
    (hn : n < m) (hw : waitedLevel t.st = some v) : run (n + 1) s = .next (waitFor v State.succeedWait t) :=
  calc run (n + 1) s
      = step t := run_succ_of_run h
    _ = selectedTick t := step_of_run_of_quiet h hq hn
    _ = _ := selectedTick_of_waitedLevel hw

/-- While the line is at the other level and CNT at most 200, the wait only counts. -/
theorem run_of_wait_stays {s : State} {v : Level} {n : Nat} (hp : s.params.legal = true)
    (hw : waitedLevel s.st = some v) (ht : s.tmrRun = true) (hc : s.cnt + n ≤ 201) (hq : s.quietFor n)
    (hl : ∀ j < n, s.lineAt j ≠ v) : run n s = .next (s.countedFor n) := by
  induction n with
  | zero => rfl
  | succ n ih =>
    have hrun := ih (by omega) (fun j hj => hq j (by omega)) fun j hj => hl j (by omega)
    have hline : (s.countedFor n).lineRead ≠ v := by rw [lineRead_of_run hrun]; exact hl n (Nat.lt_succ_self n)
    have hcnt : (s.countedFor n).cnt ≤ 200 := Nat.le_of_succ_le_succ hc
    rw [run_succ_of_wait hrun hq (Nat.lt_succ_self n) hw, waitFor_stay _ hline hcnt,
      State.countedFor_advance hp ht (by omega)]

/-- Settles O51: the polls before the wanted level, or before the poll at CNT = 201, only count; the next one decides. -/
theorem waitPollsAtMost202Ticks : Obligations.WaitPollsAtMost202Ticks := by
  intro s v hp hw ht hc
  have hpolls : ∀ {n m : Nat}, n ≤ 201 → n ≤ m → s.quietFor m → (∀ j < n, s.lineAt j ≠ v) →
      run n s = .next (s.countedFor n) := fun hn hm hq hl =>
    run_of_wait_stays hp hw ht (by omega) (fun j hj => hq j (by omega)) hl
  have hcnt : ∀ n, (s.countedFor n).cnt = n := fun n => by simp [State.countedFor, hc]
  refine ⟨fun k hk hq hne hl => ⟨fun j hj => ?_, ?_⟩, fun hq hne => ⟨fun j hj => ?_, ?_⟩⟩
  · exact ⟨_, hpolls (by omega) (by omega) hq fun i hi => hne i (by omega), rfl, hcnt j⟩
  · have hrun := hpolls hk (Nat.le_succ k) hq hne
    refine ⟨_, run_succ_of_wait hrun hq (Nat.lt_succ_self k) hw, ?_⟩
    rw [waitFor_success _ ((lineRead_of_run hrun).trans hl)]
    exact ⟨State.succeedWait_st _, State.succeedWait_cnt _⟩
  · exact ⟨_, hpolls (by omega) (by omega) hq fun i hi => hne i (by omega), rfl⟩
  · have hrun := hpolls le_rfl (by decide) hq fun j hj => hne j (by omega)
    have hline : (s.countedFor 201).lineRead ≠ v := by rw [lineRead_of_run hrun]; exact hne 201 (by decide)
    refine ⟨_, run_succ_of_wait hrun hq (by decide) hw, ?_⟩
    rw [waitFor_timeout _ hline (by rw [hcnt]; decide), State.countedFor_advance hp ht (by omega)]
    exact ⟨rfl, hcnt 202, rfl, rfl⟩

end Sys2Proof.Machine
end

section
/-! The bit deserializer (spec/42_bit_deserializer.md R150 to R157): its three micro-operations, the capture of one slot,
and the capture of forty pulses and their decoding (spec/43_decode.md R170, R172). -/

namespace Sys2Proof.Machine

/-! ### The three micro-operations (R151 to R155) -/

/-- Settles O21: BIT_RISE waits for 1 and goes to BIT_HOLD. -/
theorem bitRiseWaitsHigh : Obligations.BitRiseWaitsHigh :=
  waitMeaning_goto (x := .bitRise) rfl (by decide) fun s hs => by rw [waitSuccessor, hs]

theorem exec_bitHold {s : State} (hc : s.input.cmd.valid = false) : exec .bitHold s = bitHoldTick s :=
  refuseIfCommand_of_absent (s.command_absent_iff.2 hc) _

/-- Settles O22: during the delay BIT_HOLD is the default effect. -/
theorem bitHoldDelays : Obligations.BitHoldDelays := by
  intro s hs hc hk
  calc exec .bitHold s
      = bitHoldTick s := exec_bitHold hc
    _ = .next (s.advance.goto .bitHold) := bitHoldTick_of_lt hk
    _ = .next s.advance := by rw [State.goto_of_st (x := .bitHold) (s := s.advance) hs]

theorem sampleTick_of_slotWrite {s : State} {b : Slots} (h : slotWrite s.bitBuf s.bitIdx s.lineRead = some b) :
    sampleTick s = .next ({ s.advance with bitBuf := b }.timerReset.goto .bitFall) := by
  simp only [sampleTick, h]

/-- Settles O23: after the delay BIT_HOLD samples, and the write succeeds where BITIDX addresses a cell. -/
theorem bitHoldSamples : Obligations.BitHoldSamples := by
  intro s hc hk hb
  have hw := slotWrite_of_lt (b := s.bitBuf) (v := s.lineRead) (Nat.lt_succ_of_le hb)
  refine ⟨_, ?_, (slotWrite_some hw).2⟩
  rw [exec_bitHold hc, bitHoldTick_of_ge hk, sampleTick_of_slotWrite hw]
  rfl

/-- Settles O25: BIT_FALL waits for 0, and its success ends the slot. -/
theorem bitFallEndsSlot : Obligations.BitFallEndsSlot :=
  waitMeaning_of_waitedLevel (x := .bitFall) rfl fun s hs => by
    rw [State.succeedWait_of_bitFall (s := s.advance.timerReset) hs]
    obtain ⟨hx, e⟩ | ⟨hx, e⟩ := endSlot_cases s.advance.timerReset
    · have h39 : s.bitIdx.toNat = 39 := congrArg BitVec.toNat hx
      rw [e, if_pos h39]; rfl
    · have h39 : s.bitIdx.toNat ≠ 39 := fun h => hx (BitVec.eq_of_toNat_eq h)
      rw [e, if_neg h39]; rfl

/-! ### From the rise to the sample (R152, R153, R156) -/

theorem lineAt_of_run {n : Nat} {s t : State} (h : run n s = .next t) (k : Nat) : t.lineAt k = s.lineAt (n + k) := by
  rw [State.lineAt, inputAt_of_run h]; rfl

theorem quietFor_of_run {n m : Nat} {s t : State} (h : run n s = .next t) (hq : s.quietFor (n + m)) : t.quietFor m :=
  fun k hk => by rw [inputAt_of_run h]; exact hq _ (Nat.add_lt_add_left hk n)

/-- Every tick uses up one entry of the inputs. -/
theorem inputs_of_run {n : Nat} {s t : State} (h : run n s = .next t) : t.inputs = s.inputs.drop n := by
  induction n generalizing s with
  | zero => cases h; rfl
  | succ n ih =>
    obtain ⟨u, hu, ht⟩ := run_succ_next h
    rw [ih ht, (step_next_clock hu).2, List.drop_tail]

/-- A quiet tick of BIT_HOLD at the end of a run. -/
theorem run_succ_of_bitHold {n m : Nat} {s t : State} (h : run n s = .next t) (hq : s.quietFor m) (hn : n < m)
    (hs : t.st = .bitHold) : run (n + 1) s = bitHoldTick t :=
  calc run (n + 1) s
      = step t := run_succ_of_run h
    _ = selectedTick t := step_of_run_of_quiet h hq hn
    _ = bitHoldTick t := by rw [selectedTick, hs]

/-- While CNT is below 40, BIT_HOLD only counts. -/
theorem run_of_bitHold_delays {s : State} {n : Nat} (hp : s.params.legal = true) (hs : s.st = .bitHold)
    (ht : s.tmrRun = true) (hc : s.cnt + n ≤ 40) (hq : s.quietFor n) : run n s = .next (s.countedFor n) := by
  induction n with
  | zero => rfl
  | succ n ih =>
    have hrun := ih (by omega) fun j hj => hq j (by omega)
    have hcnt : (s.countedFor n).cnt < 40 := hc
    rw [run_succ_of_bitHold hrun hq (Nat.lt_succ_self n) hs, bitHoldTick_of_lt hcnt,
      State.countedFor_advance hp ht (by omega), State.goto_of_st (s := s.countedFor (n + 1)) hs]

/-- `t` is in BIT_FALL with CNT = 0, the level `v` captured in the slot of `s` (R153). -/
structure Captured (s t : State) (v : Level) : Prop where
  st : t.st = .bitFall
  cnt : t.cnt = 0
  tmrRun : t.tmrRun = true
  bitIdx : t.bitIdx = s.bitIdx
  bitBuf : slotWrite s.bitBuf s.bitIdx v = some t.bitBuf

/-- BIT_HOLD, entered with CNT = 0, samples in its 41st tick. -/
theorem run_of_bitHold_samples {s : State} (hp : s.params.legal = true) (hs : s.st = .bitHold) (ht : s.tmrRun = true)
    (hc : s.cnt = 0) (hb : s.bitIdx.toNat ≤ 39) (hq : s.quietFor 41) :
    ∃ t, run 41 s = .next t ∧ Captured s t (s.lineAt 40) := by
  have hrun : run 40 s = .next (s.countedFor 40) :=
    run_of_bitHold_delays hp hs ht (by omega) fun j hj => hq j (by omega)
  have hcnt : 40 ≤ (s.countedFor 40).cnt := Nat.le_add_left 40 s.cnt
  have hw := slotWrite_of_lt (b := s.bitBuf) (v := (s.countedFor 40).lineRead) (Nat.lt_succ_of_le hb)
  have hsample : run 41 s = _ :=
    calc run 41 s
        = bitHoldTick (s.countedFor 40) := run_succ_of_bitHold hrun hq (by decide) hs
      _ = sampleTick (s.countedFor 40) := bitHoldTick_of_ge hcnt
      _ = _ := sampleTick_of_slotWrite hw
  exact ⟨_, hsample, rfl, rfl, ht, rfl, lineRead_of_run hrun ▸ hw⟩

/-- If the poll of BIT_RISE succeeds in this tick, the level captured is that of the tick 41 ticks later, and BIT_FALL
first polls in the tick after it. -/
theorem run_of_bitRise_captures {s : State} (hp : s.params.legal = true) (hs : s.st = .bitRise) (ht : s.tmrRun = true)
    (hb : s.bitIdx.toNat ≤ 39) (hq : s.quietFor 42) (hl : s.lineAt 0 = true) :
    ∃ t, run 42 s = .next t ∧ Captured s t (s.lineAt 41) := by
  have hrise : run 1 s = .next (s.advance.timerReset.goto .bitHold) := by
    have hst : s.advance.timerReset.st = .bitRise := hs
    rw [run_succ_of_wait (run_zero s) hq (by decide) (v := true) (by rw [hs]; rfl),
      waitFor_success _ (s.lineAt_zero.symm.trans hl), State.succeedWait_of_ne (hst.trans_ne (by decide)), waitSuccessor,
      hst]
  obtain ⟨t, hrun, hcap⟩ := run_of_bitHold_samples (s := s.advance.timerReset.goto .bitHold) hp rfl ht rfl hb
    (quietFor_of_run hrise hq)
  rw [lineAt_of_run hrise] at hcap
  exact ⟨t, (run_add hrise 41).trans hrun, hcap.st, hcap.cnt, hcap.tmrRun, hcap.bitIdx, hcap.bitBuf⟩

/-- Settles O52: the tick of the rise, the delay of 40 ticks and the sample. -/
theorem sampleIs41TicksAfterRise : Obligations.SampleIs41TicksAfterRise := by
  intro s hp hs ht hb hq hl
  obtain ⟨t, hrun, hcap⟩ := run_of_bitRise_captures hp hs ht hb hq hl
  exact ⟨t, hrun, hcap.st, hcap.cnt, hcap.bitIdx, (slotWrite_some hcap.bitBuf).2⟩

/-! ### One slot (R150 to R157) -/

/-- The inputs of the coming slot: `l` low ticks, a pulse of `w` ticks, and low to the poll that ends the slot. -/
def State.pulseAhead (s : State) (l w : Nat) : Prop :=
  ∀ j < l + 43 + (w - 42), s.inputAt j = Input.level (decide (l ≤ j ∧ j < l + w))

/-- A scripted level comes with no reset and no command. -/
theorem Input.level_quiet (v : Level) : (Input.level v).quiet = true := rfl

theorem State.pulseAhead.quietFor {s : State} {l w : Nat} (h : s.pulseAhead l w) : s.quietFor (l + 43 + (w - 42)) :=
  fun j hj => by rw [h j hj]; exact Input.level_quiet _

theorem State.pulseAhead.lineAt {s : State} {l w j : Nat} (h : s.pulseAhead l w) (hj : j < l + 43 + (w - 42)) :
    s.lineAt j = decide (l ≤ j ∧ j < l + w) := by rw [State.lineAt, h j hj]; rfl

/-- A wait for `v` whose line is at the other level for `n` ticks, CNT at most 200, and then at `v`. -/
theorem run_of_wait_succeeds {s : State} {v : Level} {n : Nat} (hp : s.params.legal = true)
    (hw : waitedLevel s.st = some v) (ht : s.tmrRun = true) (hc : s.cnt + n ≤ 201) (hq : s.quietFor (n + 1))
    (hne : ∀ j < n, s.lineAt j ≠ v) (hl : s.lineAt n = v) :
    run (n + 1) s = .next (s.countedFor n).advance.timerReset.succeedWait := by
  have hrun := run_of_wait_stays hp hw ht hc (fun j hj => hq j (by omega)) hne
  rw [run_succ_of_wait hrun hq (Nat.lt_succ_self n) hw, waitFor_success _ ((lineRead_of_run hrun).trans hl)]

/-- `s` is the first poll of BIT_RISE in a slot of a legal block. -/
structure SlotStart (s : State) : Prop where
  legal : s.params.legal = true
  st : s.st = .bitRise
  tmrRun : s.tmrRun = true
  cnt : s.cnt = 0
  bitIdx_le : s.bitIdx.toNat ≤ 39

/-- After the last slot the success of BIT_FALL leads to DECODE (R155). -/
theorem Captured.last_slot {s u : State} {v : Level} (h : Captured s u v) (hx : s.bitIdx.toNat = 39) :
    u.endSlot.st = .decode ∧ u.endSlot.bitBuf = u.bitBuf := by
  have h39 : u.bitIdx = 39#6 := h.bitIdx.trans (BitVec.eq_of_toNat_eq hx)
  rw [((endSlot_cases u).resolve_right fun e => e.1 h39).2]
  exact ⟨rfl, rfl⟩

/-- After an earlier slot it leads to the first poll of the next one (R155). -/
theorem Captured.next_slot {s u : State} {v : Level} (h : Captured s u v) (hp : u.endSlot.params.legal = true)
    (hx : s.bitIdx.toNat < 39) :
    SlotStart u.endSlot ∧ u.endSlot.bitIdx.toNat = s.bitIdx.toNat + 1 ∧ u.endSlot.bitBuf = u.bitBuf := by
  have h39 : u.bitIdx ≠ 39#6 := fun e => by rw [← h.bitIdx, e] at hx; exact lt_irrefl _ hx
  have hnext : (u.bitIdx + 1).toNat = s.bitIdx.toNat + 1 := by rw [h.bitIdx]; bv_omega
  rw [((endSlot_cases u).resolve_left fun e => h39 e.1).2] at hp ⊢
  exact ⟨⟨hp, rfl, h.tmrRun, h.cnt, hnext.trans_le hx⟩, hnext, rfl⟩

/-- A slot of a clean pulse captures whether the pulse lasts 42 ticks, the level in the 42nd tick from the rise
(R156, R157). It ends with the low poll in the tick after the sample, or in the first after the pulse if that is later. -/
theorem run_of_pulseAhead {s : State} (hs : SlotStart s) {l w : Nat} (hl : l ≤ 200) (hw : 1 ≤ w ∧ w ≤ 243)
    (h : s.pulseAhead l w) :
    ∃ u, Captured s u (decide (42 ≤ w)) ∧ run (l + 43 + (w - 42)) s = .next u.endSlot := by
  obtain ⟨hp, hst, ht, hc, hb⟩ := hs
  have hlow : run l s = .next (s.countedFor l) :=
    run_of_wait_stays (v := true) hp (by rw [hst]; rfl) ht (by omega) (fun j hj => h.quietFor j (by omega)) fun j hj => by
      simp [h.lineAt (j := j) (by omega), Nat.not_le.2 hj]
  obtain ⟨t, hrun, hcap⟩ := run_of_bitRise_captures (s := s.countedFor l) hp hst ht hb
    (quietFor_of_run hlow fun j hj => h.quietFor j (by omega))
    (by rw [lineAt_of_run hlow, h.lineAt (by omega)]; exact decide_eq_true (by omega))
  have hsample : (s.countedFor l).lineAt 41 = decide (42 ≤ w) := by
    rw [lineAt_of_run hlow, h.lineAt (by omega)]; exact decide_eq_decide.2 (by omega)
  have hrise : run (l + 42) s = .next t := (run_add hlow 42).trans hrun
  have hfall : run (w - 42 + 1) t = .next (t.countedFor (w - 42)).advance.timerReset.succeedWait :=
    run_of_wait_succeeds (v := false) (run_next_params hrise ▸ hp) (by rw [hcap.st]; rfl) hcap.tmrRun
      (by rw [hcap.cnt]; omega) (quietFor_of_run hrise fun j hj => h.quietFor j (by omega))
      (fun j hj => by rw [lineAt_of_run hrise, h.lineAt (by omega)]; exact fun e => of_decide_eq_false e (by omega))
      (by rw [lineAt_of_run hrise, h.lineAt (by omega)]; exact decide_eq_false (by omega))
  refine ⟨(t.countedFor (w - 42)).advance.timerReset,
    ⟨hcap.st, rfl, hcap.tmrRun, hcap.bitIdx, by rw [← hsample]; exact hcap.bitBuf⟩, ?_⟩
  calc run (l + 43 + (w - 42)) s
      = run (l + 42 + (w - 42 + 1)) s := by congr 1; omega
    _ = run (w - 42 + 1) t := run_add hrise _
    _ = _ := hfall
    _ = _ := by rw [State.succeedWait_of_bitFall (s := (t.countedFor (w - 42)).advance.timerReset) hcap.st]

/-! ### Forty slots (R150, R157) -/

/-- The inputs of a pulse: `p.1` low ticks, then `p.2` high ones. -/
def pulseTicks (p : Nat × Nat) : List Input :=
  List.replicate p.1 (Input.level false) ++ List.replicate p.2 (Input.level true)

/-- The inputs begin with 43 low ticks. -/
def StartsLow (l : List Input) : Prop := ∀ j < 43, l[j]? = some (Input.level false)

/-- The bounds of a clean pulse. The low time outlasts what the slot before may use up of it, and stays inside the wait
of BIT_RISE; the high time is inside the delay and the wait of BIT_FALL. -/
structure CleanPulse (p : Nat × Nat) : Prop where
  low_ge : 43 ≤ p.1
  low_le : p.1 ≤ 200
  width : 1 ≤ p.2 ∧ p.2 ≤ 243

theorem startsLow_replicate_append (l : List Input) : StartsLow (List.replicate 43 (Input.level false) ++ l) :=
  fun j hj => by rw [List.getElem?_append_left (by simpa using hj), List.getElem?_replicate_of_lt hj]

/-- Clean pulses begin with 43 low ticks, as do the inputs after the last of them. -/
theorem startsLow_pulses {ps : List (Nat × Nat)} {later : List Input} (hps : ∀ p ∈ ps, CleanPulse p)
    (h : StartsLow later) : StartsLow (ps.flatMap pulseTicks ++ later) := by
  cases ps with
  | nil => exact h
  | cons p ps =>
    intro j hj
    have hlow : j < p.1 := hj.trans_le (hps p List.mem_cons_self).low_ge
    simp [pulseTicks, List.getElem?_append, hlow]

theorem State.inputAt_of_getElem? {s : State} {k : Nat} {i : Input} (h : s.inputs[k]? = some i) : s.inputAt k = i := by
  rw [State.inputAt, h]; rfl

/-- A pulse and the low ticks after it are the inputs of a slot. -/
theorem pulseAhead_of_inputs {s : State} {p : Nat × Nat} {later : List Input} (hw : 1 ≤ p.2)
    (hin : s.inputs = pulseTicks p ++ later) (hlow : StartsLow later) :
    s.pulseAhead p.1 p.2 := fun j hj => State.inputAt_of_getElem? <| by
  rw [hin, pulseTicks, List.append_assoc]
  by_cases h1 : j < p.1
  · simp [List.getElem?_append, h1, Nat.not_le.2 h1]
  · by_cases h2 : j < p.1 + p.2
    · have hlt : j - p.1 < p.2 := by omega
      simp [List.getElem?_append, h1, h2, hlt, Nat.not_lt.1 h1]
    · have hge : ¬ j - p.1 < p.2 := by omega
      simpa [List.getElem?_append, h1, h2, hge] using hlow (j - p.1 - p.2) (by omega)

/-- A slot uses up its pulse and, of the low ticks after it, fewer than 43. -/
theorem drop_slot_ticks {p : Nat × Nat} (hw : 1 ≤ p.2) (later : List Input) :
    ∃ d < 43, (pulseTicks p ++ later).drop (p.1 + 43 + (p.2 - 42)) = later.drop d := by
  have hlen : (pulseTicks p).length = p.1 + p.2 := by simp [pulseTicks]
  refine ⟨p.1 + 43 + (p.2 - 42) - (p.1 + p.2), by omega, ?_⟩
  rw [List.drop_append, List.drop_eq_nil_of_le (by omega), hlen, List.nil_append]

/-- Of a first pulse with at least `d` low ticks, `d` are used up. -/
theorem drop_pulses {p : Nat × Nat} {d : Nat} (hd : d ≤ p.1) (ps : List (Nat × Nat)) (later : List Input) :
    ((p :: ps).flatMap pulseTicks ++ later).drop d = ((p.1 - d, p.2) :: ps).flatMap pulseTicks ++ later := by
  simp [pulseTicks, List.drop_append, Nat.sub_eq_zero_of_le hd]

/-- `c` is `b` with the levels `vs` in the cells from cell `n` on; the cells below `n` are kept. -/
structure CellsFrom (n : Nat) (vs : List Level) (b c : Slots) : Prop where
  kept : ∀ i : Fin 40, i.val < n → slotRead c i = slotRead b i
  written : ∀ (i : Fin 40) (k : Nat) (v : Level), i.val = n + k → vs[k]? = some v → slotRead c i = v

namespace CellsFrom
variable {n : Nat} {vs : List Level} {b c : Slots}

theorem nil (n : Nat) (b : Slots) : CellsFrom n [] b b := ⟨fun _ _ => rfl, by simp⟩

/-- A sample into cell `n`, then the levels from cell `n + 1` on. -/
theorem cons {b' : Slots} {x : SlotIndex} {v : Level} (hw : slotWrite b x v = some b') (hx : x.toNat = n)
    (h : CellsFrom (n + 1) vs b' c) : CellsFrom n (v :: vs) b c where
  kept := fun i hi => by rw [h.kept i (by omega), (slotWrite_some hw).2, if_neg (by omega)]
  written := fun i k u hi hu => by
    cases k with
    | zero =>
      obtain rfl : v = u := by simpa using hu
      rw [h.kept i (by omega), (slotWrite_some hw).2, if_pos (by omega)]
    | succ k => exact h.written i k u (by omega) (by simpa using hu)

end CellsFrom

/-- The slot of a pulse, whose inputs stand at the head of the scripted ones. -/
theorem run_of_pulse {s : State} (h : SlotStart s) {p : Nat × Nat} {later : List Input} (hl : p.1 ≤ 200)
    (hw : 1 ≤ p.2 ∧ p.2 ≤ 243) (hin : s.inputs = pulseTicks p ++ later) (hlow : StartsLow later) :
    ∃ n u, Captured s u (decide (42 ≤ p.2)) ∧ run n s = .next u.endSlot ∧ ∃ d < 43, u.endSlot.inputs = later.drop d := by
  obtain ⟨u, hcap, hrun⟩ := run_of_pulseAhead h hl hw (pulseAhead_of_inputs hw.1 hin hlow)
  obtain ⟨d, hd, hdrop⟩ := drop_slot_ticks hw.1 later
  exact ⟨_, u, hcap, hrun, d, hd, by rw [inputs_of_run hrun, hin, hdrop]⟩

/-- The slots from the one of `s` to slot 39 capture their pulses by their widths, and DECODE runs next, in a low tick.
An earlier slot may have used up low ticks of the first pulse. -/
theorem run_of_pulses {s : State} (h : SlotStart s) {p : Nat × Nat} {ps : List (Nat × Nat)} {later : List Input}
    (hl : p.1 ≤ 200) (hw : 1 ≤ p.2 ∧ p.2 ≤ 243) (hps : ∀ q ∈ ps, CleanPulse q)
    (hin : s.inputs = (p :: ps).flatMap pulseTicks ++ later) (hlow : StartsLow later)
    (hidx : s.bitIdx.toNat + ps.length = 39) :
    ∃ n t, run n s = .next t ∧ t.st = .decode ∧ t.inputAt 0 = Input.level false ∧
      CellsFrom s.bitIdx.toNat ((p :: ps).map fun q => decide (42 ≤ q.2)) s.bitBuf t.bitBuf := by
  induction ps generalizing s p with
  | nil =>
    obtain ⟨n, u, hcap, hrun, d, hd, hdrop⟩ := run_of_pulse h hl hw (later := later) (by simpa using hin) hlow
    obtain ⟨hst, hbuf⟩ := hcap.last_slot hidx
    refine ⟨n, u.endSlot, hrun, hst, State.inputAt_of_getElem? ?_, .cons hcap.bitBuf rfl (hbuf ▸ .nil _ _)⟩
    rw [hdrop, List.getElem?_drop]
    exact hlow d hd
  | cons q ps ih =>
    have hclean := hps q List.mem_cons_self
    have hps' : ∀ r ∈ ps, CleanPulse r := fun r hr => hps r (List.mem_cons_of_mem q hr)
    obtain ⟨n, u, hcap, hrun, d, hd, hdrop⟩ := run_of_pulse h hl hw (later := (q :: ps).flatMap pulseTicks ++ later)
      (by simpa using hin) (startsLow_pulses hps hlow)
    rw [List.length_cons] at hidx
    rw [drop_pulses (hd.le.trans hclean.low_ge)] at hdrop
    obtain ⟨hstart, hnext, hbuf⟩ := hcap.next_slot (run_next_params hrun ▸ h.legal) (by omega)
    obtain ⟨m, t, hrun', hst, hinput, hcells⟩ := ih hstart (p := (q.1 - d, q.2))
      ((Nat.sub_le q.1 d).trans hclean.low_le) hclean.width hps' hdrop (by omega)
    rw [hnext, hbuf] at hcells
    exact ⟨n + m, t, (run_add hrun m).trans hrun', hst, hinput, .cons hcap.bitBuf rfl hcells⟩

/-! ### The result of forty pulses (R170, R172) -/

/-- DECODE in a quiet tick. -/
theorem step_of_decode {s : State} (hs : s.st = .decode) (hq : s.quietFor 1) :
    step s = .next ((s.advance.writeResult s.bitBuf).goto .done) := by
  rw [step_of_run_of_quiet (run_zero s) hq one_pos, selectedTick, hs, decodeTick]

/-- Settles O53: the forty slots capture the pulses by their widths, and DECODE writes the fields and the tenths. -/
theorem fortyPulsesAreDecoded : Obligations.FortyPulsesAreDecoded := by
  intro s pulses rest hp hst hidx hc ht hclean hin
  have hidx0 : s.bitIdx.toNat = 0 := congrArg BitVec.toNat hidx
  have hall : ∀ q ∈ pulses.toList, CleanPulse q := fun q hq => by
    obtain ⟨i, hi, rfl⟩ := List.getElem_of_mem hq
    obtain ⟨hge, hle, hwidth⟩ := hclean ⟨i, by simpa using hi⟩
    exact ⟨hge, hle, hwidth⟩
  have hlen : pulses.toList.length = 40 := pulses.length_toList
  obtain ⟨p, ps, hps⟩ := List.exists_cons_of_length_eq_add_one hlen
  have hcons : ∀ q ∈ p :: ps, CleanPulse q := hps ▸ hall
  have hfirst : CleanPulse p := hcons p List.mem_cons_self
  obtain ⟨n, t, hrun, hdec, hinput, hcells⟩ := run_of_pulses (p := p) (ps := ps)
    (later := List.replicate 43 (Input.level false) ++ rest) ⟨hp, hst, ht, hc, by omega⟩ hfirst.low_le hfirst.width
    (fun q hq => hcons q (List.mem_cons_of_mem p hq)) (by rw [hin, hps, List.append_assoc]; rfl)
    (startsLow_replicate_append rest) (by rw [hps, List.length_cons] at hlen; omega)
  have hquiet : t.quietFor 1 := fun k hk => by
    obtain rfl : k = 0 := by omega
    rw [hinput]; rfl
  rw [hidx0, ← hps] at hcells
  refine ⟨n + 1, _, (run_succ_of_run hrun).trans (step_of_decode hdec hquiet), rfl, rfl, rfl, fun i => ?_,
    rfl, rfl, rfl, rfl, tenths_toNat _ _, tenths_toNat _ _⟩
  exact hcells.written i i _ (Nat.zero_add _).symm (by simp)

end Sys2Proof.Machine
end

section
/-! The field decoder and the two endings of a read (spec/43_decode.md R170 to R178, spec/60_exceptions.md R195). -/

namespace Sys2Proof.Machine

/-! ### The readings (R172, R173) -/

/-- Two bytes give at most 10 * 255 + 255 tenths. -/
theorem tenths_le (i f : Byte) : (tenths i f).toNat ≤ 2805 := by
  have hi : i.toNat < 256 := i.isLt
  have hf : f.toNat < 256 := f.isLt
  rw [tenths_toNat]
  omega

/-- The tenths divided by ten are the integer field plus a tenth of the fraction field. -/
theorem tenths_div_ten (i f : Byte) : ((tenths i f).toNat : Rat) / 10 = (i.toNat : Rat) + (f.toNat : Rat) / 10 := by
  rw [tenths_toNat]
  push_cast
  ring

/-! ### DECODE (R170) -/

/-- Where DECODE answers a next state, it wrote the result and went to DONE. -/
theorem exec_decode_next {s t : State} (h : exec .decode s = .next t) :
    t = (s.advance.writeResult s.bitBuf).goto .done := by
  have htick : decodeTick s = .next t := (refuseIfCommand_next h).2
  cases htick
  rfl

/-- Settles O31: each reading DECODE writes is the tenths of the two fields it writes, and those are exact. -/
theorem readingsAreExactTenths : Obligations.ReadingsAreExactTenths := by
  intro s t h
  obtain rfl := exec_decode_next h
  exact ⟨tenths_toNat _ _, tenths_le _ _, tenths_toNat _ _, tenths_le _ _, tenths_div_ten _ _, tenths_div_ten _ _⟩

/-- Settles O26: DECODE alone in its tick writes the result, CNT and ST. -/
theorem decodeWritesResult : Obligations.DecodeWritesResult := fun s hc =>
  refuseIfCommand_of_absent (s.command_absent_iff.2 hc) (decodeTick s)

/-! ### DONE and TIMEDOUT (R178, R195) -/

/-- Settles O27: DONE and TIMEDOUT alone in their tick are the return to IDLE. -/
theorem endingsReturnToIdle : Obligations.EndingsReturnToIdle := by
  intro s hc i hi
  have habsent : s.command = .absent := s.command_absent_iff.2 hc
  rcases hi with rfl | rfl
  · exact refuseIfCommand_of_absent habsent (doneTick s)
  · exact refuseIfCommand_of_absent habsent (timedoutTick s)

end Sys2Proof.Machine
end

section
/-! What a read leaves behind influences no tick and no later read (spec/60_exceptions.md R197): `SameButHistory` is kept
by each operation that builds a tick, then by each tick, then by each run. -/

namespace Sys2Proof.Machine

/-- The two states agree in the registers that a read works with: BITIDX, BITBUF, DLY (R112). -/
def SameSlots (s s' : State) : Prop := s'.bitIdx = s.bitIdx ∧ s'.bitBuf = s.bitBuf ∧ s'.dly = s.dly

namespace SameButHistory
variable {s s' : State}

theorem input_eq (h : SameButHistory s s') : s'.input = s.input := by
  rw [State.input, State.input, h.inputs_eq, h.tick_eq]

/-- A valid, good result is shown by equal ports: FAILED and the data agree with the rest (R226). -/
theorem outputs_eq (h : SameButHistory s s') (hv : s.rvalid = true) (hf : s.failed = false) : s'.outputs = s.outputs := by
  obtain ⟨hhi, hhf, hti, htf, hhx, htx⟩ := h.data_eq hv hf
  simp only [State.outputs, busy, doneFlag, h.dir_eq, h.out_eq, h.st_eq, h.inited_eq, h.rvalid_eq, h.failed_eq hv,
    hhi, hhf, hti, htf, hhx, htx]

theorem refl (s : State) : SameButHistory s s := by constructor <;> simp

/-! ### The operations of a tick -/

theorem advance (h : SameButHistory s s') : SameButHistory s.advance s'.advance :=
  { h with
    tick_eq := congrArg (· + 1) h.tick_eq
    inputs_eq := congrArg List.tail h.inputs_eq
    cnt_eq := fun hs => countedUp_congr h.tmrRun_eq (congrArg Config.Params.cntW h.params_eq) (h.cnt_eq hs) }

theorem timerReset (h : SameButHistory s s') : SameButHistory s.timerReset s'.timerReset :=
  { h with cnt_eq := fun _ => rfl }

theorem timerStart (h : SameButHistory s s') : SameButHistory s.timerStart s'.timerStart :=
  { h with tmrRun_eq := rfl }

theorem lineDir (h : SameButHistory s s') (d : PinMode) : SameButHistory (s.lineDir d) (s'.lineDir d) :=
  { h with dir_eq := rfl }

theorem lineWrite (h : SameButHistory s s') (v : Level) : SameButHistory (s.lineWrite v) (s'.lineWrite v) :=
  { h with out_eq := rfl }

theorem storeHandles (h : SameButHistory s s') (port pin tmr : Nat) :
    SameButHistory (s.storeHandles port pin tmr) (s'.storeHandles port pin tmr) :=
  { h with inited_eq := rfl }

/-- After DECODE the result is that of the one buffer, whatever stood there before (R170). -/
theorem writeResult (h : SameButHistory s s') (b : Slots) : SameButHistory (s.writeResult b) (s'.writeResult b) :=
  { h with
    rvalid_eq := rfl
    failed_eq := fun _ => rfl
    data_eq := fun _ _ => ⟨rfl, rfl, rfl, rfl, rfl, rfl⟩ }

theorem setDly (h : SameButHistory s s') (d : Nat) : SameButHistory { s with dly := d } { s' with dly := d } :=
  { h with slots_eq := fun hs => ⟨(h.slots_eq hs).1, (h.slots_eq hs).2.1, rfl⟩ }

theorem goto {x : SeqState} (h : SameButHistory s s') (hslots : x ≠ .idle → SameSlots s s')
    (hcnt : isWait x = true ∨ x = .bitHold → s'.cnt = s.cnt) : SameButHistory (s.goto x) (s'.goto x) :=
  { h with
    st_eq := rfl
    slots_eq := hslots
    cnt_eq := hcnt }

/-- In IDLE what the read used is forgotten. -/
theorem goto_idle (h : SameButHistory s s') : SameButHistory (s.goto .idle) (s'.goto .idle) :=
  h.goto (absurd rfl) (by simp [isWait, waitedLevel])

/-- CNT is forgotten on entry to a micro-operation that does not read it. -/
theorem goto_unread {x : SeqState} (h : SameButHistory s s') (hslots : SameSlots s s') (hw : isWait x = false)
    (hx : x ≠ .bitHold) : SameButHistory (s.goto x) (s'.goto x) :=
  h.goto (fun _ => hslots) (by simp [hw, hx])

/-- After a `TimerReset()` CNT is 0 in both states, so any micro-operation may follow. -/
theorem timerReset_goto {x : SeqState} (h : SameButHistory s s') (hslots : SameSlots s s') :
    SameButHistory (s.timerReset.goto x) (s'.timerReset.goto x) :=
  h.timerReset.goto (fun _ => hslots) fun _ => rfl

theorem raiseTimeout (h : SameButHistory s s') (hslots : SameSlots s s') (n : Nat) :
    SameButHistory (s.raiseTimeout n) (s'.raiseTimeout n) :=
  { h with
    st_eq := rfl
    rvalid_eq := rfl
    slots_eq := fun _ => hslots
    cnt_eq := by simp [isWait, waitedLevel]
    failed_eq := fun _ => rfl
    data_eq := fun _ hf => nomatch (hf : true = false) }

theorem resetTick (h : SameButHistory s s') : SameButHistory s.resetTick s'.resetTick := by
  have e : s'.resetTick = s.resetTick := by rw [State.resetTick, State.resetTick, h.params_eq, h.tick_eq, h.inputs_eq]
  rw [e]
  exact .refl _

/-! ### The micro-operations -/

/-- A poll has the same branch in both states: it reads the line, and CNT where the two agree (R132). -/
theorem waitFor {v : Level} {f : State → State} (h : SameButHistory s s') (hslots : SameSlots s s')
    (hw : isWait s.st = true) (hf : SameButHistory (f s.advance.timerReset) (f s'.advance.timerReset)) :
    SameButHistory (waitFor v f s) (waitFor v f s') := by
  have hl' : s'.lineRead = s.lineRead := congrArg Input.line h.input_eq
  have hc' : s'.cnt = s.cnt := h.cnt_eq (.inl hw)
  obtain ⟨hl, e⟩ | ⟨hl, hk, e⟩ | ⟨hl, hk, e⟩ := waitFor_cases v f s <;> rw [e]
  · rw [waitFor_success f (hl'.trans hl)]
    exact hf
  · rw [waitFor_timeout f (hl' ▸ hl) (hc' ▸ hk), h.tick_eq]
    exact h.advance.raiseTimeout hslots s.tick
  · rw [waitFor_stay f (hl' ▸ hl) (hc' ▸ hk)]
    exact h.advance

/-- BIT_FALL's success tests an index that is the same in both states (R155). -/
theorem timerReset_endSlot (h : SameButHistory s s') (hslots : SameSlots s s') :
    SameButHistory s.timerReset.endSlot s'.timerReset.endSlot := by
  obtain ⟨hx, hb, hd⟩ := hslots
  have hlast : lastSlot s'.timerReset = lastSlot s.timerReset := congrArg (· == 39#6) hx
  unfold State.endSlot
  rw [hlast]
  refine related_ite (h.timerReset_goto ⟨hx, hb, hd⟩) ?_
  have hnext : SameSlots { s with bitIdx := s.bitIdx + 1 } { s' with bitIdx := s'.bitIdx + 1 } :=
    ⟨congrArg (· + 1) hx, hb, hd⟩
  exact { h with st_eq := rfl, slots_eq := fun _ => hnext, cnt_eq := fun _ => rfl }

/-- START_LOW tests and counts a DLY that is the same in both states (R130). -/
theorem startLowTick (h : SameButHistory s s') (hslots : SameSlots s s') :
    outcomesAgree SameButHistory (startLowTick s) (startLowTick s') := by
  obtain ⟨hx, hb, hd⟩ := hslots
  have hend : startPulseEnds s' = startPulseEnds s := by rw [startPulseEnds, startPulseEnds, hd, h.params_eq]
  unfold Machine.startLowTick
  rw [hend, hd, h.params_eq]
  exact outcomesAgree_ite ((h.advance.lineWrite true).goto_unread ⟨hx, hb, hd⟩ rfl (by decide))
    ((h.advance.setDly _).goto_unread ⟨hx, hb, rfl⟩ rfl (by decide))

/-- The sample writes the same level to the same cell of one buffer, or faults in both states (R153). -/
theorem sampleTick (h : SameButHistory s s') (hslots : SameSlots s s') :
    outcomesAgree SameButHistory (sampleTick s) (sampleTick s') := by
  obtain ⟨hx, hb, hd⟩ := hslots
  have hl : s'.lineRead = s.lineRead := congrArg Input.line h.input_eq
  unfold Machine.sampleTick
  rw [hx, hb, hl]
  cases slotWrite s.bitBuf s.bitIdx s.lineRead with
  | none => exact rfl
  | some b => exact { h.advance with st_eq := rfl, slots_eq := fun _ => ⟨hx, rfl, hd⟩, cnt_eq := fun _ => rfl }

/-- BIT_HOLD reads CNT, where the two agree (R152). -/
theorem bitHoldTick (h : SameButHistory s s') (hslots : SameSlots s s') (hs : s.st = .bitHold) :
    outcomesAgree SameButHistory (bitHoldTick s) (bitHoldTick s') := by
  have hdelay : delayRunning s' = delayRunning s := by rw [delayRunning, delayRunning, h.cnt_eq (.inr hs)]
  unfold Machine.bitHoldTick
  rw [hdelay]
  exact outcomesAgree_ite (h.advance.goto (fun _ => hslots) fun _ => h.advance.cnt_eq (.inr hs)) (h.sampleTick hslots)

theorem selectedTick (h : SameButHistory s s') : outcomesAgree SameButHistory (selectedTick s) (selectedTick s') := by
  have hslots : s.st ≠ .idle → SameSlots s s' := h.slots_eq
  unfold Machine.selectedTick
  rw [h.st_eq]
  cases hs : s.st <;> rw [hs] at hslots
  case idle | done | timedout => exact h.advance.goto_idle
  case startLow => exact h.startLowTick (hslots nofun)
  case startRel => exact (h.advance.lineDir _).timerReset_goto (hslots nofun)
  case ackLow1 | ackHigh | ackLow2 | bitRise =>
    exact h.waitFor (hslots nofun) (by rw [hs]; rfl) (h.advance.timerReset_goto (hslots nofun))
  case bitHold => exact h.bitHoldTick (hslots nofun) hs
  case bitFall => exact h.waitFor (hslots nofun) (by rw [hs]; rfl) (h.advance.timerReset_endSlot (hslots nofun))
  case decode =>
    have hb : s'.bitBuf = s.bitBuf := (hslots nofun).2.1
    unfold decodeTick
    rw [hb]
    exact (h.advance.writeResult _).goto_unread (hslots nofun) rfl (by decide)

/-! ### The admissions and the tick -/

theorem admitInit (h : SameButHistory s s') (port pin tmr : Nat) :
    outcomesAgree SameButHistory (admitInit port pin tmr s) (admitInit port pin tmr s') := by
  unfold Machine.admitInit
  rw [h.inited_eq]
  exact outcomesAgree_ite rfl (h.advance.storeHandles port pin tmr).timerStart.goto_idle

/-- READ writes or clears whatever a read will use, so its admission relates any two states of one block in the same
tick with the same inputs, INITED and TMR_RUN (R112). -/
theorem of_admitRead (hp : s'.params = s.params) (ht : s'.tick = s.tick) (hin : s'.inputs = s.inputs)
    (hi : s'.inited = s.inited) (hr : s'.tmrRun = s.tmrRun) :
    outcomesAgree SameButHistory (admitRead s) (admitRead s') := by
  unfold admitRead
  rw [hi]
  refine outcomesAgree_ite ?_ rfl
  exact {
    params_eq := hp
    tick_eq := congrArg (· + 1) ht
    inputs_eq := congrArg List.tail hin
    st_eq := rfl
    dir_eq := rfl
    out_eq := rfl
    inited_eq := hi
    tmrRun_eq := hr
    rvalid_eq := rfl
    slots_eq := fun _ => ⟨rfl, rfl, rfl⟩
    cnt_eq := by simp [isWait, waitedLevel]
    failed_eq := fun hv => nomatch (hv : false = true)
    data_eq := fun hv => nomatch (hv : false = true) }

/-- One tick of two states that agree but for what an earlier read left behind: outcomes of one kind, related again. -/
theorem step (h : SameButHistory s s') : outcomesAgree SameButHistory (step s) (step s') :=
  outcomesAgree_step h.input_eq h.st_eq h.resetTick h.selectedTick h.admitInit
    (of_admitRead h.params_eq h.tick_eq h.inputs_eq h.inited_eq h.tmrRun_eq)

end SameButHistory

/-- Settles O58: each tick keeps `SameButHistory`, and a valid, good result is part of it. -/
theorem stepKeepsSameButHistory : Obligations.StepKeepsSameButHistory := fun _ _ h => ⟨h.step, h.outputs_eq⟩

/-! ### Runs side by side (R197) -/

/-- Outcomes that agree are two related next states, one fault, or one refusal. -/
theorem outcomesAgree_cases {R : State → State → Prop} {a b : Result} (h : outcomesAgree R a b) :
    (∃ t t', a = .next t ∧ b = .next t' ∧ R t t') ∨ (∃ r, a = .fault r ∧ b = .fault r) ∨
    (∃ r, a = .refused r ∧ b = .refused r) := by
  cases a <;> cases b
  case next.next t t' => exact .inl ⟨t, t', rfl, rfl, h⟩
  case fault.fault r r' => exact .inr (.inl ⟨r, rfl, congrArg _ (Eq.symm h)⟩)
  case refused.refused r r' => exact .inr (.inr ⟨r, rfl, congrArg _ (Eq.symm h)⟩)
  all_goals exact False.elim h

/-- Two runs agree where the first ticks do, with next states from which the runs that remain agree. -/
theorem outcomesAgree_run_succ {R : State → State → Prop} {s s' : State} {n : Nat}
    (h : outcomesAgree R (step s) (step s')) (hrun : ∀ t t', R t t' → outcomesAgree R (run n t) (run n t')) :
    outcomesAgree R (run (n + 1) s) (run (n + 1) s') := by
  obtain ⟨t, t', hs, hs', ht⟩ | ⟨r, hs, hs'⟩ | ⟨r, hs, hs'⟩ := outcomesAgree_cases h <;> simp only [run, hs, hs']
  · exact hrun t t' ht
  · exact rfl
  · exact rfl

/-- A relation that every tick keeps, every run keeps. -/
theorem outcomesAgree_run {R : State → State → Prop} (hR : ∀ s s', R s s' → outcomesAgree R (step s) (step s'))
    (n : Nat) {s s' : State} (h : R s s') : outcomesAgree R (run n s) (run n s') := by
  induction n generalizing s s' with
  | zero => exact h
  | succ n ih => exact outcomesAgree_run_succ (hR s s' h) fun _ _ => ih

/-- A tick that leads to IDLE and is no reset leaves BITIDX, BITBUF and DLY as they are. -/
theorem Tick.sameSlots_of_idle {s t : State} (h : Tick s t) (hr : s.input.rst = false) (ht : t.st = .idle) :
    SameSlots s t := by
  cases h
  case reset h1 => simp [hr] at h1
  case idle | init | stays | done | timedout => exact ⟨rfl, rfl, rfl⟩
  all_goals cases ht

/-- Two states that agree but for what came before the read that both run or have just run: it wrote BITIDX, BITBUF and
DLY alike, so in IDLE they agree in these too. -/
def SameRead (s s' : State) : Prop := SameButHistory s s' ∧ SameSlots s s'

theorem SameButHistory.sameRead {s s' : State} (h : SameButHistory s s') (hs : s.st ≠ .idle) : SameRead s s' :=
  ⟨h, h.slots_eq hs⟩

namespace SameRead
variable {s s' t t' : State}

/-- BITIDX, BITBUF and DLY are cleared by a reset and kept by the return to IDLE. -/
theorem sameSlots_next (h : SameRead s s') (hs : step s = .next t) (hs' : step s' = .next t')
    (ht : SameButHistory t t') : SameSlots t t' := by
  obtain ⟨hhist, hx, hb, hd⟩ := h
  by_cases hidle : t.st = .idle
  · cases hr : s.input.rst
    · obtain ⟨hxt, hbt, hdt⟩ := (tick_of_step hs).sameSlots_of_idle hr hidle
      obtain ⟨hxt', hbt', hdt'⟩ :=
        (tick_of_step hs').sameSlots_of_idle (hhist.input_eq ▸ hr) (ht.st_eq.trans hidle)
      exact ⟨hxt'.trans (hx.trans hxt.symm), hbt'.trans (hb.trans hbt.symm), hdt'.trans (hd.trans hdt.symm)⟩
    · rw [step_of_rst hr] at hs
      rw [step_of_rst (hhist.input_eq ▸ hr)] at hs'
      cases hs
      cases hs'
      exact ⟨rfl, rfl, rfl⟩
  · exact ht.slots_eq hidle

theorem step (h : SameRead s s') : outcomesAgree SameRead (step s) (step s') :=
  outcomesAgree_imp h.1.step fun _ _ hs hs' ht => ⟨ht, h.sameSlots_next hs hs' ht⟩

end SameRead

/-- In an IDLE tick with READ the step is READ's admission. -/
theorem step_of_read {s : State} (hs : s.st = .idle) (hr : s.input.rst = false) (hc : s.command = .read) :
    step s = admitRead s := (step_of_command hr hc).trans (exec_read_of_idle hs)

/-- An accepted READ starts the same read in any two idle blocks that are ready for it (R112). -/
theorem outcomesAgree_sameRead_of_read {s s' : State} (hs : s.st = .idle) (hs' : s'.st = .idle)
    (hp : s'.params = s.params) (ht : s'.tick = s.tick) (hin : s'.inputs = s.inputs) (hi : s'.inited = s.inited)
    (hrun : s'.tmrRun = s.tmrRun) (hr : s.input.rst = false) (hc : s.command = .read) :
    outcomesAgree SameRead (step s) (step s') := by
  have hinput : s'.input = s.input := by rw [State.input, State.input, hin, ht]
  have hc' : s'.command = .read := by rw [State.command, hinput]; exact hc
  rw [step_of_read hs hr hc, step_of_read hs' (hinput ▸ hr) hc']
  refine outcomesAgree_imp (SameButHistory.of_admitRead hp ht hin hi hrun) fun t t' h _ hrel => hrel.sameRead ?_
  obtain ⟨_, rfl⟩ := admitRead_next h
  exact nofun

/-- Settles O55: READ's admission starts the same read in both, and every tick keeps it the same. -/
theorem readIsIndependentOfHistory : Obligations.ReadIsIndependentOfHistory := by
  intro s s' hs hs' hi hi' hrun hrun' hp ht hin hr hc n hn
  obtain ⟨m, rfl⟩ := Nat.exists_eq_add_of_le' hn
  have hfirst : outcomesAgree SameRead (step s) (step s') :=
    outcomesAgree_sameRead_of_read hs hs' hp.symm ht.symm hin.symm (hi'.trans hi.symm) (hrun'.trans hrun.symm) hr hc
  have hruns : outcomesAgree SameRead (run (m + 1) s) (run (m + 1) s') :=
    outcomesAgree_run_succ hfirst fun _ _ => outcomesAgree_run (fun _ _ => SameRead.step) m
  refine outcomesAgree_imp hruns fun t t' _ _ ⟨h, hx, hb, hd⟩ => ?_
  exact ⟨h.st_eq.symm, hx.symm, hb.symm, hd.symm, h.dir_eq.symm, h.out_eq.symm, h.inited_eq.symm, h.rvalid_eq.symm,
    fun hv => ⟨(h.failed_eq hv).symm, fun hf => (h.outputs_eq hv hf).symm⟩⟩

end Sys2Proof.Machine
end

section
/-! The timer rule, the entry of the Timeout and the refusals (spec/60_exceptions.md R191 to R193, R204). -/

namespace Sys2Proof.Machine

/-! ### The counter (R204) -/

/-- A successful poll performs a `TimerReset()`. -/
theorem resetsTimer_of_success {s : State} (h : waitedLevel s.st = some s.lineRead) : resetsTimer s = true := by
  simp [resetsTimer, h, State.lineRead]

/-- A poll of the other level performs none. -/
theorem not_resetsTimer_of_wait {s : State} {v : Level} (h : waitedLevel s.st = some v) (hl : s.lineRead ≠ v) :
    resetsTimer s = false := by
  have hl' : v ≠ s.input.line := hl.symm
  have hrel : s.st ≠ .startRel := (ne_of_waitedLevel h).2.2
  have hhold : s.st ≠ .bitHold := by rintro e; rw [e] at h; cases h
  simp [resetsTimer, h, hl', hrel, hhold]

namespace Tick
variable {s t : State}

/-- The transitions with a `TimerReset()` are those of the ticks that `resetsTimer` names; every other counts. -/
theorem cnt_eq (h : Tick s t) (hr : s.input.rst = false) : t.cnt = if resetsTimer s then 0 else countedUp s := by
  cases h
  case reset h1 => simp [hr] at h1
  case startRel hs => simp [resetsTimer, hs]
  case ackLow1 hs hl | ackHigh hs hl | ackLow2 hs hl | bitRise hs hl =>
    rw [if_pos (resetsTimer_of_success (by rw [hs, hl]; rfl))]; rfl
  case lastSlotEnds hs hl _ | slotEnds hs hl _ =>
    rw [if_pos (resetsTimer_of_success (by rw [hs, hl]; rfl))]; rfl
  case holds hs hk => simp [resetsTimer, waitedLevel, hs, Nat.not_le.2 hk]
  case samples hs hk _ => simp [resetsTimer, hs, hk]
  case stays hs hl _ | timesOut hs hl _ => simp [not_resetsTimer_of_wait hs hl]
  case idle hs | startCounts hs _ | startEnds hs _ | decode hs | done hs | timedout hs =>
    simp [resetsTimer, waitedLevel, hs]
  case init hs _ | read hs _ => simp [resetsTimer, waitedLevel, hs, State.clearForRead]

/-! ### The Timeout (R191, R193) -/

/-- TIMEDOUT is entered by a Timeout alone: a wait polled the other level with CNT above 200. -/
theorem enters_timedout (h : Tick s t) (ht : t.st = .timedout) :
    ∃ v, waitedLevel s.st = some v ∧ s.lineRead ≠ v ∧ 200 < s.cnt ∧ t = s.advance.raiseTimeout s.tick := by
  cases h
  case timesOut v _ _ hs hl hk => exact ⟨v, hs, hl, hk, rfl⟩
  case stays hs _ _ => exact absurd ht (ne_ending_of_waitedLevel hs).2.2
  all_goals cases ht

end Tick

/-- Settles O33: the counter update of each transition. -/
theorem counterFollowsTimerRule : Obligations.CounterFollowsTimerRule := fun _ _ hr h => (tick_of_step h).cnt_eq hr

theorem isWait_iff (x : SeqState) : isWait x = true ↔ ∃ v, waitedLevel x = some v := Option.isSome_iff_exists

/-- A wait that polls the other level with CNT above 200, no command presented, enters the Timeout. -/
theorem step_of_timeout {s : State} {v : Level} (hr : s.input.rst = false) (hc : s.command = .absent)
    (hs : waitedLevel s.st = some v) (hl : s.lineRead ≠ v) (hk : 200 < s.cnt) :
    step s = .next (s.advance.raiseTimeout s.tick) := by
  rw [step_of_not_rst hr, exec_selected hc, selectedTick_of_waitedLevel hs, waitFor_timeout _ hl hk]

/-- A block that meets `Inv` does not drive the line in a wait (R42 (c)). -/
theorem Inv.dir_of_waitedLevel {s : State} (hi : Inv s) {v : Level} (hs : waitedLevel s.st = some v) :
    s.dir = .input := by
  obtain ⟨_, hlow, hrel⟩ := ne_of_waitedLevel hs
  cases hd : s.dir with
  | input => rfl
  | output => exact absurd (hi.dir_iff.1 hd) (by simp [hlow, hrel])

/-- Settles O34: of the transitions the Timeout's alone enters TIMEDOUT, and it writes no DIR. -/
theorem timeoutOnlyFromWaits : Obligations.TimeoutOnlyFromWaits := by
  intro s hr hv
  refine ⟨⟨?_, ?_⟩, ?_⟩
  · rintro ⟨t, h, ht⟩
    obtain ⟨v, hs, hl, hk, _⟩ := (tick_of_step h).enters_timedout ht
    exact ⟨(isWait_iff _).2 ⟨v, hs⟩, fun e => hl (Option.some.inj (e.symm.trans hs)), hk⟩
  · rintro ⟨hw, hne, hk⟩
    obtain ⟨v, hs⟩ := (isWait_iff _).1 hw
    have hl : s.lineRead ≠ v := fun e => hne (hs.trans (congrArg some e.symm))
    exact ⟨_, step_of_timeout hr (s.command_absent_iff.2 hv) hs hl hk, rfl⟩
  · intro t h ht
    obtain ⟨v, hs, _, _, rfl⟩ := (tick_of_step h).enters_timedout ht
    exact ⟨timeoutEntered_raiseTimeout s, fun hi => ⟨hi.dir_of_waitedLevel hs, hi.dir_of_waitedLevel hs⟩⟩

/-! ### The host's duties (R118) and the refusals (R192) -/

/-- Where BITIDX addresses a cell and the host keeps its duties, the tick answers a next state. -/
theorem step_next_of_hostObeys {s : State} (hb : s.bitIdx.toNat < 40) (h : hostObeys s = true) :
    ∃ t, step s = .next t := by
  cases hr : s.input.rst
  · cases hc : s.command with
    | absent =>
      obtain ⟨t, ht, _⟩ := selectedTick_answers hb
      exact ⟨t, by rw [step_of_not_rst hr, exec_selected hc, ht]⟩
    | init port pin tmr =>
      have hduty : s.st = .idle ∧ s.inited = false := by simpa [hostObeys, hr, hc, busy] using h
      have hadmit : admitInit port pin tmr s = .next _ := if_neg (by simp [hduty.2])
      exact ⟨_, (step_of_command hr hc).trans ((exec_init_of_idle hduty.1 port pin tmr).trans hadmit)⟩
    | read =>
      have hduty : s.st = .idle ∧ s.inited = true := by simpa [hostObeys, hr, hc, busy] using h
      exact ⟨_, (step_of_read hduty.1 hr hc).trans (if_pos hduty.2)⟩
  · exact ⟨_, step_of_rst hr⟩

/-- A tick in which the host neglects its duties is refused, for the first reason of R113, R115, R114 that applies. -/
theorem step_refused_of_not_hostObeys {s : State} (h : hostObeys s = false) :
    step s = .refused
      (if s.st ≠ .idle then .commandWhileBusy else if s.inited then .repeatedInit else .readBeforeInit) := by
  have hr : s.input.rst = false := by
    cases hr : s.input.rst
    · rfl
    · simp [hostObeys, hr] at h
  have hpresent : s.command ≠ .absent := fun hc => by simp [hostObeys, hr, hc] at h
  by_cases hs : s.st = .idle
  · cases hc : s.command with
    | absent => exact absurd hc hpresent
    | init port pin tmr =>
      have hi : s.inited = true := by simpa [hostObeys, hr, hc, busy, hs] using h
      simpa [hs, hi] using (repeatedInitRefused s port pin tmr hs hi).2 hr hc
    | read =>
      have hi : s.inited = false := by simpa [hostObeys, hr, hc, busy, hs] using h
      simpa [hs, hi] using (readBeforeInitRefused s hs hi).2 hr hc
  · rw [step_of_not_rst hr, exec_busy_command hs hpresent, if_pos hs]

/-- Settles O41: R42 (b) shuts out the fault, and what is left without a next state is the host's misuse. -/
theorem onlyMisuseIsRefused : Obligations.OnlyMisuseIsRefused := by
  intro s hi
  refine ⟨⟨step_next_of_hostObeys (Nat.lt_succ_of_le hi.bitIdx_le), fun ⟨t, ht⟩ => ?_⟩, step_refused_of_not_hostObeys⟩
  by_contra hobey
  rw [step_refused_of_not_hostObeys (by simpa using hobey)] at ht
  cases ht

end Sys2Proof.Machine
end

section
/-! Reset and termination (spec/70_reset_and_hazards.md R220, R232): while a read runs, the micro-operation in ST, the slot
and the ticks spent in place bound the ticks since READ from both sides. -/

namespace Sys2Proof.Machine

/-- Settles O5: a reset tick, and the reset states as they stand. -/
theorem resetTickGivesResetState : Obligations.ResetTickGivesResetState :=
  ⟨fun _ h => step_of_rst h, fun _ => rfl, rfl⟩

/-! ### The window of a micro-operation (R232) -/

/-- The fewest ticks from READ to the entry of a micro-operation, in slot `i` of a block with START_LOW_TICKS `n`: every
poll before it succeeds at once, or ACK_LOW1 times out. -/
def earliestEntry (n i : Nat) : SeqState → Nat
  | .idle     => 0
  | .startLow => 1
  | .startRel => n + 1
  | .ackLow1  => n + 2
  | .ackHigh  => n + 3
  | .ackLow2  => n + 4
  | .bitRise  => n + 5 + 43 * i
  | .bitHold  => n + 6 + 43 * i
  | .bitFall  => n + 47 + 43 * i
  | .decode   => n + 1725
  | .done     => n + 1726
  | .timedout => n + 204

/-- The most ticks from READ to the entry of a micro-operation: every wait before it succeeds in its 202nd poll, or
BIT_FALL of slot 39 times out. -/
def latestEntry (n i : Nat) : SeqState → Nat
  | .idle     => 0
  | .startLow => 1
  | .startRel => n + 1
  | .ackLow1  => n + 2
  | .ackHigh  => n + 204
  | .ackLow2  => n + 406
  | .bitRise  => n + 608 + 445 * i
  | .bitHold  => n + 810 + 445 * i
  | .bitFall  => n + 851 + 445 * i
  | .decode   => n + 18408
  | .done     => n + 18409
  | .timedout => n + 18408

/-- The ticks already spent in the micro-operation in ST: what DLY counts in START_LOW, CNT in a wait or the delay. -/
def State.spent (s : State) : Nat :=
  match s.st with
  | .startLow => s.dly
  | .ackLow1 | .ackHigh | .ackLow2 | .bitRise | .bitHold | .bitFall => s.cnt
  | .idle | .startRel | .decode | .done | .timedout => 0

/-- `k` ticks after READ are inside the window of the micro-operation in ST. -/
structure OnTime (s : State) (k : Nat) : Prop where
  earliest : earliestEntry s.params.startLowTicks s.bitIdx.toNat s.st + s.spent ≤ k
  latest : k ≤ latestEntry s.params.startLowTicks s.bitIdx.toNat s.st + s.spent

theorem spent_of_waitedLevel {s : State} {v : Level} (h : waitedLevel s.st = some v) : s.spent = s.cnt := by
  unfold State.spent
  cases hs : s.st
  case ackLow1 | ackHigh | ackLow2 | bitRise | bitFall => rfl
  all_goals simp [hs, waitedLevel] at h

/-- The first wait starts two ticks after the pulse, the last one is BIT_FALL of slot 39. -/
theorem entry_of_waitedLevel {x : SeqState} {v : Level} (h : waitedLevel x = some v) (n : Nat) {i : Nat} (hi : i ≤ 39) :
    n + 2 ≤ earliestEntry n i x ∧ latestEntry n i x ≤ n + 18206 := by
  cases x
  case ackLow1 | ackHigh | ackLow2 | bitRise | bitFall => simp only [earliestEntry, latestEntry]; omega
  all_goals cases h

/-- A tick that stays in the micro-operation is counted by DLY or CNT. -/
theorem OnTime.stay {s t : State} {k : Nat} (h : OnTime s k) (hp : t.params = s.params) (hs : t.st = s.st)
    (hb : t.bitIdx = s.bitIdx) (hspent : t.spent = s.spent + 1) : OnTime t (k + 1) := by
  obtain ⟨hearly, hlate⟩ := h
  constructor <;> rw [hp, hs, hb, hspent] <;> omega

/-- A tick that enters a micro-operation adds one to what was spent in the one before. -/
theorem OnTime.enter {s t : State} {k : Nat} (h : OnTime s k) (hp : t.params = s.params) (hspent : t.spent = 0)
    (hentry :
      earliestEntry s.params.startLowTicks t.bitIdx.toNat t.st ≤
        earliestEntry s.params.startLowTicks s.bitIdx.toNat s.st + s.spent + 1 ∧
      latestEntry s.params.startLowTicks s.bitIdx.toNat s.st + s.spent + 1 ≤
        latestEntry s.params.startLowTicks t.bitIdx.toNat t.st) : OnTime t (k + 1) := by
  obtain ⟨hearly, hlate⟩ := h
  constructor <;> rw [hp, hspent] <;> omega

/-- What holds `k` ticks after READ while the read runs: the fields of `Inv` that bound its length and give its result,
which do not rest on what the block held before READ, and the window. -/
structure ReadRunning (s : State) (k : Nat) : Prop where
  legal : s.params.legal = true
  busy : s.st ≠ .idle
  tmrRun : s.tmrRun = true
  bitIdx_le : s.bitIdx.toNat ≤ 39
  cnt_wait : isWait s.st = true → s.cnt ≤ 201
  cnt_hold : s.st = .bitHold → s.cnt ≤ 40
  dly_le : s.st = .startLow → s.dly ≤ s.params.startLowTicks - 1
  rvalid_ended : s.st = .done ∨ s.st = .timedout → s.rvalid = true
  done_good : s.st = .done → s.failed = false
  timedout_bad : s.st = .timedout → s.failed = true
  slots : SlotInv s
  onTime : OnTime s k

namespace ReadRunning
variable {s t : State} {k : Nat}

theorem cnt_le (h : ReadRunning s k) {v : Level} (hs : waitedLevel s.st = some v) : s.cnt ≤ 201 :=
  h.cnt_wait ((isWait_iff _).2 ⟨v, hs⟩)

/-- A busy state is at most 18409 ticks and the start pulse after READ. -/
theorem elapsed_le (h : ReadRunning s k) : k ≤ s.params.startLowTicks + 18409 := by
  have hlate := h.onTime.latest
  have hb := h.bitIdx_le
  by_cases hw : isWait s.st = true
  · obtain ⟨v, hs⟩ := (isWait_iff _).1 hw
    have hentry := (entry_of_waitedLevel hs s.params.startLowTicks hb).2
    have hcnt := h.cnt_le hs
    rw [spent_of_waitedLevel hs] at hlate
    omega
  · cases hs : s.st <;> simp only [hs, State.spent, latestEntry] at hlate
    case idle => exact absurd hs h.busy
    case startLow => have := h.dly_le hs; omega
    case bitHold => have := h.cnt_hold hs; omega
    case startRel | decode | done | timedout => omega
    all_goals exact absurd (by rw [hs]; rfl) hw

/-- Every transition of a running read that does not end it leads into the next window. -/
theorem onTime_tick (h : ReadRunning s k) (ht : Tick s t) (hr : s.input.rst = false) (hbusy : t.st ≠ .idle) :
    OnTime t (k + 1) := by
  cases ht
  case reset h1 => simp [hr] at h1
  case idle | init | done | timedout => exact absurd rfl hbusy
  case read hs _ => exact absurd hs h.busy
  case startCounts hs hd =>
    refine h.onTime.stay rfl hs.symm rfl ?_
    simp only [State.spent, State.goto_st, hs]
    exact wrap_dly h.legal (lt_of_le_of_ne (h.dly_le hs) hd)
  case holds hs hk =>
    refine h.onTime.stay rfl hs.symm rfl ?_
    simp only [State.spent, State.goto_st, hs]
    exact countedUp_of_lt h.legal h.tmrRun (by omega)
  case stays hs _ hk =>
    refine h.onTime.stay rfl rfl rfl ?_
    rw [spent_of_waitedLevel hs, spent_of_waitedLevel (s := s.advance) hs]
    exact countedUp_of_lt h.legal h.tmrRun (by omega)
  case timesOut hs _ hk =>
    have hentry := entry_of_waitedLevel hs s.params.startLowTicks h.bitIdx_le
    have hcnt := h.cnt_le hs
    refine h.onTime.enter rfl rfl ?_
    rw [spent_of_waitedLevel hs]
    change s.params.startLowTicks + 204 ≤ _ ∧ _ ≤ s.params.startLowTicks + 18408
    omega
  case startEnds hs hd =>
    have hpulse := legal_startLowTicks h.legal
    refine h.onTime.enter rfl rfl ?_
    simp [hs, State.spent, earliestEntry, latestEntry]
    omega
  case ackLow2 hs _ =>
    have hcnt := h.cnt_wait (by rw [hs]; rfl)
    have hfirst := (h.slots.preamble (by simp [hs])).1
    refine h.onTime.enter rfl rfl ?_
    simp [hs, hfirst, State.spent, earliestEntry, latestEntry]
    omega
  case ackLow1 hs _ | ackHigh hs _ | bitRise hs _ =>
    have hcnt := h.cnt_wait (by rw [hs]; rfl)
    refine h.onTime.enter rfl rfl ?_
    simp [hs, State.spent, earliestEntry, latestEntry]
    omega
  case samples hs hk _ =>
    have hcnt := h.cnt_hold hs
    refine h.onTime.enter rfl rfl ?_
    simp [hs, State.spent, earliestEntry, latestEntry]
    omega
  case lastSlotEnds hs _ hx =>
    have hcnt := h.cnt_wait (by rw [hs]; rfl)
    refine h.onTime.enter rfl rfl ?_
    simp [hs, hx, State.spent, earliestEntry, latestEntry]
    omega
  case slotEnds hs _ hx =>
    have hcnt := h.cnt_wait (by rw [hs]; rfl)
    have hb := h.bitIdx_le
    have hnext : (s.bitIdx + 1).toNat = s.bitIdx.toNat + 1 := by bv_omega
    refine h.onTime.enter rfl rfl ?_
    simp only [hs, hnext, State.spent, earliestEntry, latestEntry, State.goto_st, State.goto_bitIdx]
    omega
  case startRel hs | decode hs =>
    refine h.onTime.enter rfl rfl ?_
    simp [hs, State.spent, earliestEntry, latestEntry]

/-- A read that a tick does not end keeps running. -/
theorem tick (h : ReadRunning s k) (ht : Tick s t) (hr : s.input.rst = false) (hbusy : t.st ≠ .idle) :
    ReadRunning t (k + 1) where
  legal := ht.params_eq ▸ h.legal
  busy := hbusy
  tmrRun := by
    obtain ⟨_, hrun, _⟩ | ⟨hs, _⟩ := ht.configuration_written hr
    · exact hrun.trans h.tmrRun
    · exact absurd hs h.busy
  bitIdx_le := ht.bitIdx_le h.bitIdx_le
  cnt_wait := ht.cnt_wait
  cnt_hold := ht.cnt_hold
  dly_le := ht.dly_le h.legal h.dly_le
  rvalid_ended := ht.rvalid_ended h.rvalid_ended
  done_good := ht.done_good h.done_good
  timedout_bad := ht.timedout_bad h.timedout_bad
  slots := h.slots.tick h.bitIdx_le ht
  onTime := h.onTime_tick ht hr hbusy

end ReadRunning

/-- `s` is idle again `k` ticks after READ, with a result inside R232's bounds. -/
structure ReadEnded (s : State) (k : Nat) : Prop where
  idle : s.st = .idle
  rvalid : s.rvalid = true
  good : s.failed = false → s.params.startLowTicks + 1727 ≤ k ∧ k ≤ s.params.startLowTicks + 18410
  bad : s.failed = true → s.params.startLowTicks + 205 ≤ k ∧ k ≤ s.params.startLowTicks + 18409

/-- The tick that ends a running read is DONE's or TIMEDOUT's, whose windows are R232's bounds (R178, R195). -/
theorem ReadRunning.ended {s t : State} {k : Nat} (h : ReadRunning s k) (ht : Tick s t) (hr : s.input.rst = false)
    (hidle : t.st = .idle) : ReadEnded t (k + 1) := by
  obtain ⟨hearly, hlate⟩ := h.onTime
  cases ht
  case reset h1 => simp [hr] at h1
  case idle hs | init hs _ => exact absurd hs h.busy
  case stays hs _ _ => exact absurd hidle (ne_of_waitedLevel hs).1
  case done hs =>
    simp only [hs, State.spent, earliestEntry, latestEntry] at hearly hlate
    have hfailed := h.done_good hs
    exact ⟨rfl, h.rvalid_ended (.inl hs), fun _ => by simp; omega, fun hf => by simp [hfailed] at hf⟩
  case timedout hs =>
    simp only [hs, State.spent, earliestEntry, latestEntry] at hearly hlate
    have hfailed := h.timedout_bad hs
    exact ⟨rfl, h.rvalid_ended (.inr hs), fun hf => by simp [hfailed] at hf, fun _ => by simp; omega⟩
  all_goals cases hidle

/-! ### The run of a read (R232) -/

/-- In a quiet tick a running read goes on. -/
theorem ReadRunning.step_next {s : State} {k : Nat} (h : ReadRunning s k) (hc : s.input.cmd.valid = false) :
    ∃ t, step s = .next t := by
  have habsent : s.command = .absent := s.command_absent_iff.2 hc
  exact step_next_of_hostObeys (Nat.lt_succ_of_le h.bitIdx_le) (by simp [hostObeys, habsent])

/-- A running read ends, at the latest when the last window of R232 closes. -/
theorem ReadRunning.terminates {s : State} {k n : Nat} (h : ReadRunning s k) (hq : s.quietFor n)
    (hn : k + n = s.params.startLowTicks + 18410) :
    ∃ m t, run m s = .next t ∧ ReadEnded t (k + m) ∧ ∀ j < m, ∃ u, run j s = .next u ∧ u.st ≠ .idle := by
  induction n generalizing s k with
  | zero => have := h.elapsed_le; omega
  | succ n ih =>
    obtain ⟨hr, hc⟩ := State.input_of_quietFor hq
    obtain ⟨t, ht⟩ := h.step_next hc
    have htick := tick_of_step ht
    by_cases hidle : t.st = .idle
    · refine ⟨1, t, run_succ_of_next ht 0, h.ended htick hr hidle, fun j hj => ?_⟩
      obtain rfl : j = 0 := by omega
      exact ⟨s, rfl, h.busy⟩
    · obtain ⟨htime, hinputs⟩ := step_next_clock ht
      obtain ⟨m, u, hrun, hend, hbusy⟩ := ih (h.tick htick hr hidle) (quietFor_of_advanced htime hinputs hq)
        (by rw [step_next_params ht]; omega)
      refine ⟨m + 1, u, (run_succ_of_next ht m).trans hrun, (by rwa [Nat.add_right_comm] at hend), fun j hj => ?_⟩
      cases j with
      | zero => exact ⟨s, rfl, h.busy⟩
      | succ j => rw [run_succ_of_next ht]; exact hbusy j (by omega)

/-- What READ clears is what a read starts with (R112, R159). -/
theorem slotInv_of_clearForRead (s : State) : SlotInv (s.clearForRead.goto .startLow) where
  preamble := fun _ => ⟨rfl, slotRead_slotsCleared⟩
  unsampled := nofun
  sampled := nofun
  complete := nofun

/-- An accepted READ starts a read, whatever the block held before. -/
theorem readRunning_of_read {s t : State} (hp : s.params.legal = true) (hrun : s.tmrRun = true)
    (h : admitRead s = .next t) : ReadRunning t 1 := by
  obtain ⟨_, rfl⟩ := admitRead_next h
  exact {
    legal := hp
    busy := nofun
    tmrRun := hrun
    bitIdx_le := Nat.zero_le _
    cnt_wait := nofun
    cnt_hold := nofun
    dly_le := fun _ => Nat.zero_le _
    rvalid_ended := nofun
    done_good := nofun
    timedout_bad := nofun
    slots := slotInv_of_clearForRead _
    onTime := ⟨le_rfl, le_rfl⟩ }

/-- Settles O54: READ starts a read, and the windows bound it until it ends. -/
theorem everyReadTerminates : Obligations.EveryReadTerminates := by
  intro s hp hs hi hrun hr hc hq
  obtain ⟨t, hadmit⟩ : ∃ t, admitRead s = .next t := ⟨_, if_pos hi⟩
  have hstep : step s = .next t := (step_of_read hs hr hc).trans hadmit
  obtain ⟨htime, hinputs⟩ := step_next_clock hstep
  have hquiet : t.quietFor (s.params.startLowTicks + 18409) := fun k hk => by
    rw [inputAt_of_advanced htime hinputs]
    exact hq (k + 1) (by omega) (by omega)
  obtain ⟨m, u, hrest, hend, hbusy⟩ := (readRunning_of_read hp hrun hadmit).terminates hquiet
    (by rw [step_next_params hstep]; omega)
  have hwhole : run (1 + m) s = .next u := (run_add (run_succ_of_next hstep 0) m).trans hrest
  obtain ⟨hidle, hvalid, hgood, hbad⟩ := hend
  rw [run_next_params hwhole] at hgood hbad
  refine ⟨1 + m, u, hwhole, hidle, hvalid, fun k hk hkm => ?_, hgood, hbad⟩
  obtain ⟨j, rfl⟩ := Nat.exists_eq_add_of_le hk
  rw [run_add (run_succ_of_next hstep 0)]
  exact hbusy j (by omega)

end Sys2Proof.Machine
end
